-- ==== Sys2Proof/Word.lean ====
section
/-! DEFINITION. The two word sizes of the register window: a byte (D7 to D0) and a 16-bit value held as two bytes. -/

namespace Sys2Proof

/-- A byte of the host bus, D7 to D0. -/
abbrev Byte := BitVec 8

/-- A 16-bit value: timestamp, divider, period, count or budget. -/
abbrev Word := BitVec 16

end Sys2Proof
end

