-- ==== Sys2Proof/Config.lean ====
section
/-! DEFINITION. The free values: what the manual leaves open and the part goes on after. They have no body, so no proof can see a
value of them. Each is applied to the State's counter `draws`, so every use is a fresh value. -/

namespace Sys2Proof

/-- The order of the works of one tick where the manual lets either come first (R5, R52, R70, R92): at draw `d`, work `k` is taken
before work `j` when its rank is lower. Works are numbered 0 to 23 (the arrival of that source) and 24 (the aging expiry).
DESIGN CHOICE (log 5): a free value; safe. -/
opaque Config.tickRank (d k : Nat) : Nat

/-- The levels on LN0 to LN15 (bit k is LNk) at a tick that comes while no command waits (R46; log 2): a free value; safe. -/
opaque Config.lineLevels (d : Nat) : Word

end Sys2Proof
end

