-- ==== Sys2Proof/Syntax.lean ====
section
/-! DEFINITION. The commands of the part, one constructor per row of spec/opcode_table.json, and the names their operands use:
the 64 registers of the window (08, section 5), the eleven 16-bit views (R144) and the five writable 16-bit values (R145). -/

namespace Sys2Proof

/-- The 64 addresses of the register window by name, in address order (08, section 5: "Every address of the window is assigned"). -/
inductive Reg where
  | grant | winner | take | latchHdr | latchSrc | latchDatum | latchStampL | latchStampH
  | latchMissed | stackDepth | cmdStatus | endService | unwind | flush | clear | postSrc
  | post | floor | agePeriodL | agePeriodH | tbDivL | tbDivH | tbCtrl | stampL
  | stampH | freeCount | lowMark | alertFlags | alertEnable | alertSource | lineRawL | lineRawH
  | lineQualL | lineQualH | timerSel | timerPeriodL | timerPeriodH | timerCountL | timerCountH | timerCtrl
  | timerArm | timerStop | budgetSel | budgetL | budgetH | budgetAction | ctxSel | ctxSrc
  | ctxClass | ctxBid | ctxStampL | ctxStampH | ctxTaken | ctxBudgetL | ctxBudgetH | ctxBstate
  | srcSel | srcCfg | srcClass | srcQuota | srcLine | srcState | srcMissed | srcBid
  deriving DecidableEq, Repr

/-- The 16-bit views, each with a read latch of its own (R144). -/
inductive View where
  | latchStamp | agePeriod | tbDiv | stamp | lineRaw | lineQual | timerPeriod | timerCount | budget | ctxStamp | ctxBudget
  deriving DecidableEq, Repr

/-- The writable 16-bit values, each with a holding byte of its own (R145). -/
inductive WideValue where
  | agePeriod | tbDiv | stamp | timerPeriod | budget
  deriving DecidableEq, Repr

/-- The commands. A `b : Byte` is the byte written on D7 to D0. -/
inductive Instr where
  /-- RESET_N goes low (R150). -/
  | resetNLow
  /-- RESET_N is released (R150). -/
  | resetNRelease
  /-- The CLK count reaches the tick period (R65); bit k of `lines` is the level of LNk that the tick samples (R46). -/
  | tick (lines : Word)
  /-- The count of timer `n` reaches 0 (R75). -/
  | timerExpiry (n : Fin 4)
  /-- The aging count reaches 0 (R89). -/
  | agingExpiry
  /-- The remaining count of the top context reaches 0 (R132). -/
  | budgetExpiry
  /-- A read of GRANT (R107). -/
  | grant
  /-- An acknowledge cycle, with the levels of CS_N and A5 to A0 during it (R143). -/
  | acknowledgeCycle (csN : Bool) (addr : BitVec 6)
  /-- A read of TAKE (R113). -/
  | take
  /-- A write of END_SERVICE (R119). -/
  | endService (b : Byte)
  /-- A write of UNWIND (R122). -/
  | unwind (b : Byte)
  /-- A write of FLUSH (R20). -/
  | flush (b : Byte)
  /-- A write of CLEAR (R149). -/
  | clear (b : Byte)
  /-- A write of POST (R80). -/
  | post (b : Byte)
  /-- A write of TIMER_ARM (R73). -/
  | timerArm (b : Byte)
  /-- A write of TIMER_STOP (R74). -/
  | timerStop (b : Byte)
  /-- A write of SRC_CFG (R37). -/
  | srcCfg (b : Byte)
  /-- A write of SRC_CLASS (R29). -/
  | srcClass (b : Byte)
  /-- A write of SRC_QUOTA (R30). -/
  | srcQuota (b : Byte)
  /-- A write of SRC_LINE (R39). -/
  | srcLine (b : Byte)
  /-- A write of FLOOR (R93). -/
  | floor (b : Byte)
  /-- A write of AGE_PERIOD H (R87). -/
  | agePeriodH (b : Byte)
  /-- A write of TB_DIV H (R65). -/
  | tbDivH (b : Byte)
  /-- A write of TB_CTRL (R66). -/
  | tbCtrl (b : Byte)
  /-- A write of STAMP H (R68). -/
  | stampH (b : Byte)
  /-- A write of TIMER_PERIOD H (R76). -/
  | timerPeriodH (b : Byte)
  /-- A write of TIMER_CTRL (R76). -/
  | timerCtrl (b : Byte)
  /-- A write of BUDGET H (R127). -/
  | budgetH (b : Byte)
  /-- A write of BUDGET_ACTION (R128). -/
  | budgetAction (b : Byte)
  /-- A write of LOW_MARK (R6). -/
  | lowMark (b : Byte)
  /-- A write of ALERT_FLAGS (R136). -/
  | alertFlags (b : Byte)
  /-- A write of ALERT_ENABLE (R137). -/
  | alertEnable (b : Byte)
  /-- A write of the low byte of a writable 16-bit value (R145). -/
  | holdingByteWrite (v : WideValue) (b : Byte)
  /-- A read of the low byte of a 16-bit view (R144). -/
  | lowByteRead (v : View)
  /-- A write to a register with no row of its own (R142). -/
  | registerWrite (r : Reg) (b : Byte)
  deriving DecidableEq, Repr

end Sys2Proof
end

