-- ==== Sys2Proof/WellFormed.lean ====
section
/-! DEFINITION. Which terms of Instr stand for a row of the table. Operand types already bound every operand (a timer is a `Fin 4`,
a view one of eleven); the one check left is that REGISTER_WRITE names a register with no row of its own. -/

namespace Sys2Proof

/-- True of a register whose write has a row of its own in the table: the strobes and POST (R147), the configuration registers with
a row, and the low bytes of the writable 16-bit values (R145). -/
def Reg.hasOwnWriteRow : Reg → Bool
  | .endService | .unwind | .flush | .clear | .post | .floor | .agePeriodL | .agePeriodH | .tbDivL | .tbDivH | .tbCtrl | .stampL
  | .stampH | .lowMark | .alertFlags | .alertEnable | .timerPeriodL | .timerPeriodH | .timerCtrl | .timerArm | .timerStop | .budgetL | .budgetH | .budgetAction
  | .srcCfg | .srcClass | .srcQuota | .srcLine => true
  | .grant | .winner | .take | .latchHdr | .latchSrc | .latchDatum | .latchStampL | .latchStampH | .latchMissed | .stackDepth | .cmdStatus | .postSrc
  | .freeCount | .alertSource | .lineRawL | .lineRawH | .lineQualL | .lineQualH | .timerSel | .timerCountL | .timerCountH | .budgetSel | .ctxSel | .ctxSrc
  | .ctxClass | .ctxBid | .ctxStampL | .ctxStampH | .ctxTaken | .ctxBudgetL | .ctxBudgetH | .ctxBstate | .srcSel | .srcState | .srcMissed | .srcBid => false

/-- A well-formed command: REGISTER_WRITE is for "a register with no row of its own"; every other term is well formed. -/
def Instr.wf : Instr → Bool
  | .registerWrite r _ => !r.hasOwnWriteRow
  | .resetNLow | .resetNRelease | .tick _ | .timerExpiry _ | .agingExpiry | .budgetExpiry | .grant | .acknowledgeCycle _ _ | .take
  | .endService _ | .unwind _ | .flush _ | .clear _ | .post _ | .timerArm _ | .timerStop _ | .srcCfg _ | .srcClass _ | .srcQuota _
  | .srcLine _ | .floor _ | .agePeriodH _ | .tbDivH _ | .tbCtrl _ | .stampH _ | .timerPeriodH _ | .timerCtrl _ | .budgetH _
  | .budgetAction _ | .lowMark _ | .alertFlags _ | .alertEnable _ | .holdingByteWrite _ _ | .lowByteRead _ => true

end Sys2Proof
end

