-- ==== Sys2Proof/Decode.lean ====
section
/-! DEFINITION. How commands reach the part: the register map (08, section 5), the decoding of the bus pins into a cycle (R141, R143)
and of a cycle into a row of the table. The table gives no row any bits, so no word spells a command (`decodeTableWord`). -/

namespace Sys2Proof

/-- The register map: the address of each register (08, section 5). -/
def Reg.addr : Reg → BitVec 6
  | .grant => 0x00
  | .winner => 0x01
  | .take => 0x02
  | .latchHdr => 0x03
  | .latchSrc => 0x04
  | .latchDatum => 0x05
  | .latchStampL => 0x06
  | .latchStampH => 0x07
  | .latchMissed => 0x08
  | .stackDepth => 0x09
  | .cmdStatus => 0x0a
  | .endService => 0x0b
  | .unwind => 0x0c
  | .flush => 0x0d
  | .clear => 0x0e
  | .postSrc => 0x0f
  | .post => 0x10
  | .floor => 0x11
  | .agePeriodL => 0x12
  | .agePeriodH => 0x13
  | .tbDivL => 0x14
  | .tbDivH => 0x15
  | .tbCtrl => 0x16
  | .stampL => 0x17
  | .stampH => 0x18
  | .freeCount => 0x19
  | .lowMark => 0x1a
  | .alertFlags => 0x1b
  | .alertEnable => 0x1c
  | .alertSource => 0x1d
  | .lineRawL => 0x1e
  | .lineRawH => 0x1f
  | .lineQualL => 0x20
  | .lineQualH => 0x21
  | .timerSel => 0x22
  | .timerPeriodL => 0x23
  | .timerPeriodH => 0x24
  | .timerCountL => 0x25
  | .timerCountH => 0x26
  | .timerCtrl => 0x27
  | .timerArm => 0x28
  | .timerStop => 0x29
  | .budgetSel => 0x2a
  | .budgetL => 0x2b
  | .budgetH => 0x2c
  | .budgetAction => 0x2d
  | .ctxSel => 0x2e
  | .ctxSrc => 0x2f
  | .ctxClass => 0x30
  | .ctxBid => 0x31
  | .ctxStampL => 0x32
  | .ctxStampH => 0x33
  | .ctxTaken => 0x34
  | .ctxBudgetL => 0x35
  | .ctxBudgetH => 0x36
  | .ctxBstate => 0x37
  | .srcSel => 0x38
  | .srcCfg => 0x39
  | .srcClass => 0x3a
  | .srcQuota => 0x3b
  | .srcLine => 0x3c
  | .srcState => 0x3d
  | .srcMissed => 0x3e
  | .srcBid => 0x3f

/-- The registers in address order. -/
def Reg.inOrder : List Reg :=
  [.grant, .winner, .take, .latchHdr, .latchSrc, .latchDatum, .latchStampL, .latchStampH,
   .latchMissed, .stackDepth, .cmdStatus, .endService, .unwind, .flush, .clear, .postSrc,
   .post, .floor, .agePeriodL, .agePeriodH, .tbDivL, .tbDivH, .tbCtrl, .stampL,
   .stampH, .freeCount, .lowMark, .alertFlags, .alertEnable, .alertSource, .lineRawL, .lineRawH,
   .lineQualL, .lineQualH, .timerSel, .timerPeriodL, .timerPeriodH, .timerCountL, .timerCountH, .timerCtrl,
   .timerArm, .timerStop, .budgetSel, .budgetL, .budgetH, .budgetAction, .ctxSel, .ctxSrc,
   .ctxClass, .ctxBid, .ctxStampL, .ctxStampH, .ctxTaken, .ctxBudgetL, .ctxBudgetH, .ctxBstate,
   .srcSel, .srcCfg, .srcClass, .srcQuota, .srcLine, .srcState, .srcMissed, .srcBid]

/-- The register at an address. `grant` stands in for an address beyond the list, and there is none. -/
def Reg.ofAddr (a : BitVec 6) : Reg := Reg.inOrder.getD a.toNat .grant

/-- The address at which a 16-bit view's low byte is read (R144). -/
def View.low : View → Reg
  | .latchStamp => .latchStampL
  | .agePeriod => .agePeriodL
  | .tbDiv => .tbDivL
  | .stamp => .stampL
  | .lineRaw => .lineRawL
  | .lineQual => .lineQualL
  | .timerPeriod => .timerPeriodL
  | .timerCount => .timerCountL
  | .budget => .budgetL
  | .ctxStamp => .ctxStampL
  | .ctxBudget => .ctxBudgetL

/-- The address at which a 16-bit view's high byte is read, the one after its low byte's (R144). -/
def View.high : View → Reg
  | .latchStamp => .latchStampH
  | .agePeriod => .agePeriodH
  | .tbDiv => .tbDivH
  | .stamp => .stampH
  | .lineRaw => .lineRawH
  | .lineQual => .lineQualH
  | .timerPeriod => .timerPeriodH
  | .timerCount => .timerCountH
  | .budget => .budgetH
  | .ctxStamp => .ctxStampH
  | .ctxBudget => .ctxBudgetH

/-- The address at which a writable 16-bit value's low byte is written (R145). -/
def WideValue.low : WideValue → Reg
  | .agePeriod => .agePeriodL
  | .tbDiv => .tbDivL
  | .stamp => .stampL
  | .timerPeriod => .timerPeriodL
  | .budget => .budgetL

/-- The levels on the host bus during a strobe; `true` is high. -/
structure BusPins where
  csN  : Bool
  rdN  : Bool
  wrN  : Bool
  ackN : Bool
  addr : BitVec 6
  data : Byte
  deriving DecidableEq, Repr

/-- The cycle the pins make (R141). -/
inductive Cycle where
  /-- A read of a register. -/
  | read (r : Reg)
  /-- A write of a byte to a register. -/
  | write (r : Reg) (b : Byte)
  /-- An acknowledge cycle (R143), with the CS_N and address levels it does not look at. -/
  | acknowledge (csN : Bool) (addr : BitVec 6)
  /-- No cycle: nothing is stored, D7 to D0 are not driven. -/
  | noCycle
  deriving DecidableEq, Repr

/-- The decoding of the bus pins (R141, R143). An acknowledge cycle needs ACK_N and RD_N low with WR_N high, whatever CS_N and the
address hold; ACK_N low otherwise makes no cycle. -/
def BusPins.cycle (p : BusPins) : Cycle :=
  match p.rdN, p.wrN, p.ackN, p.csN with
  | false, true, false, _     => .acknowledge p.csN p.addr
  | false, true, true,  false => .read (Reg.ofAddr p.addr)
  | true,  false, true, false => .write (Reg.ofAddr p.addr) p.data
  | _, _, _, _                => .noCycle

/-- The row of the table that a write is (R142, R145, R147). -/
def Reg.writeCommand (r : Reg) (b : Byte) : Instr :=
  match r with
  | .endService => .endService b
  | .unwind => .unwind b
  | .flush => .flush b
  | .clear => .clear b
  | .post => .post b
  | .floor => .floor b
  | .agePeriodL => .holdingByteWrite .agePeriod b
  | .agePeriodH => .agePeriodH b
  | .tbDivL => .holdingByteWrite .tbDiv b
  | .tbDivH => .tbDivH b
  | .tbCtrl => .tbCtrl b
  | .stampL => .holdingByteWrite .stamp b
  | .stampH => .stampH b
  | .lowMark => .lowMark b
  | .alertFlags => .alertFlags b
  | .alertEnable => .alertEnable b
  | .timerPeriodL => .holdingByteWrite .timerPeriod b
  | .timerPeriodH => .timerPeriodH b
  | .timerCtrl => .timerCtrl b
  | .timerArm => .timerArm b
  | .timerStop => .timerStop b
  | .budgetL => .holdingByteWrite .budget b
  | .budgetH => .budgetH b
  | .budgetAction => .budgetAction b
  | .srcCfg => .srcCfg b
  | .srcClass => .srcClass b
  | .srcQuota => .srcQuota b
  | .srcLine => .srcLine b
  | .grant | .winner | .take | .latchHdr | .latchSrc | .latchDatum | .latchStampL | .latchStampH | .latchMissed | .stackDepth | .cmdStatus | .postSrc
  | .freeCount | .alertSource | .lineRawL | .lineRawH | .lineQualL | .lineQualH | .timerSel | .timerCountL | .timerCountH | .budgetSel | .ctxSel | .ctxSrc
  | .ctxClass | .ctxBid | .ctxStampL | .ctxStampH | .ctxTaken | .ctxBudgetL | .ctxBudgetH | .ctxBstate | .srcSel | .srcState | .srcMissed | .srcBid => .registerWrite r b

/-- The row of the table that a read is: the two command reads (R107, R113) and the low bytes of the 16-bit views (R144). Every other
read changes nothing (R142) and has no row. -/
def Reg.readCommand : Reg → Option Instr
  | .grant => some .grant
  | .take => some .take
  | .latchStampL => some (.lowByteRead .latchStamp)
  | .agePeriodL => some (.lowByteRead .agePeriod)
  | .tbDivL => some (.lowByteRead .tbDiv)
  | .stampL => some (.lowByteRead .stamp)
  | .lineRawL => some (.lowByteRead .lineRaw)
  | .lineQualL => some (.lowByteRead .lineQual)
  | .timerPeriodL => some (.lowByteRead .timerPeriod)
  | .timerCountL => some (.lowByteRead .timerCount)
  | .budgetL => some (.lowByteRead .budget)
  | .ctxStampL => some (.lowByteRead .ctxStamp)
  | .ctxBudgetL => some (.lowByteRead .ctxBudget)
  | .winner | .latchHdr | .latchSrc | .latchDatum | .latchStampH | .latchMissed | .stackDepth | .cmdStatus | .endService | .unwind | .flush | .clear
  | .postSrc | .post | .floor | .agePeriodH | .tbDivH | .tbCtrl | .stampH | .freeCount | .lowMark | .alertFlags | .alertEnable | .alertSource
  | .lineRawH | .lineQualH | .timerSel | .timerPeriodH | .timerCountH | .timerCtrl | .timerArm | .timerStop | .budgetSel | .budgetH | .budgetAction | .ctxSel
  | .ctxSrc | .ctxClass | .ctxBid | .ctxStampH | .ctxTaken | .ctxBudgetH | .ctxBstate | .srcSel | .srcCfg | .srcClass | .srcQuota | .srcLine
  | .srcState | .srcMissed | .srcBid => none

/-- The row of the table that a bus cycle is. -/
def Cycle.command : Cycle → Option Instr
  | .read r            => r.readCommand
  | .write r b         => some (r.writeCommand b)
  | .acknowledge cs a  => some (.acknowledgeCycle cs a)
  | .noCycle           => none

/-- The pins of a read of a register. -/
def BusPins.ofRead (r : Reg) : BusPins := ⟨false, false, true, true, r.addr, 0⟩

/-- The pins of a write of a byte to a register. -/
def BusPins.ofWrite (r : Reg) (b : Byte) : BusPins := ⟨false, true, false, true, r.addr, b⟩

/-- The bus cycle that gives a command, by the register map; none for the pin and tick events. -/
def Instr.busPins : Instr → Option BusPins
  | .resetNLow | .resetNRelease | .tick _ | .timerExpiry _ | .agingExpiry | .budgetExpiry => none
  | .grant                   => some (.ofRead .grant)
  | .acknowledgeCycle cs a   => some ⟨cs, false, true, false, a, 0⟩
  | .take                    => some (.ofRead .take)
  | .endService b            => some (.ofWrite .endService b)
  | .unwind b                => some (.ofWrite .unwind b)
  | .flush b                 => some (.ofWrite .flush b)
  | .clear b                 => some (.ofWrite .clear b)
  | .post b                  => some (.ofWrite .post b)
  | .timerArm b              => some (.ofWrite .timerArm b)
  | .timerStop b             => some (.ofWrite .timerStop b)
  | .srcCfg b                => some (.ofWrite .srcCfg b)
  | .srcClass b              => some (.ofWrite .srcClass b)
  | .srcQuota b              => some (.ofWrite .srcQuota b)
  | .srcLine b               => some (.ofWrite .srcLine b)
  | .floor b                 => some (.ofWrite .floor b)
  | .agePeriodH b            => some (.ofWrite .agePeriodH b)
  | .tbDivH b                => some (.ofWrite .tbDivH b)
  | .tbCtrl b                => some (.ofWrite .tbCtrl b)
  | .stampH b                => some (.ofWrite .stampH b)
  | .timerPeriodH b          => some (.ofWrite .timerPeriodH b)
  | .timerCtrl b             => some (.ofWrite .timerCtrl b)
  | .budgetH b               => some (.ofWrite .budgetH b)
  | .budgetAction b          => some (.ofWrite .budgetAction b)
  | .lowMark b               => some (.ofWrite .lowMark b)
  | .alertFlags b            => some (.ofWrite .alertFlags b)
  | .alertEnable b           => some (.ofWrite .alertEnable b)
  | .holdingByteWrite v b    => some (.ofWrite v.low b)
  | .lowByteRead v           => some (.ofRead v.low)
  | .registerWrite r b       => some (.ofWrite r b)

/-- The command a word spells by the table's bits. The table gives no row any bits, so no word spells one. -/
def decodeTableWord (_nbits _w : Nat) : Option Instr := none

end Sys2Proof
end

