-- ==== Sys2Proof/Machine/State.lean ====
section
/-! DEFINITION. The state of the part, block by block, as plain data, its reset values, and the (unused) reasons to stop.
Source numbers are `Fin 24`, lines `Fin 16`, timers `Fin 4`, classes three bits. Counts that the manual bounds are `Nat`; Safety.lean
states the bounds as invariants. -/

namespace Sys2Proof.Machine

/-- What occurred at a source (R1). -/
inductive Kind where
  | rise | fall | level | post | interval
  deriving DecidableEq, Repr

/-- An event record (R1): its source, kind, stamp and datum. -/
structure Record where
  source : Fin 24
  kind   : Kind
  stamp  : Word
  datum  : Byte
  deriving DecidableEq, Repr

/-- What admission does with a full queue, or with an empty pool (R28). -/
inductive Policy where
  | keepOldest | keepNewest | coalesce
  deriving DecidableEq, Repr

/-- A source record of the Source Table (R23), less the line fields, which the Line Input Unit keeps (R45). The queue is oldest first. -/
structure Source where
  admitOn    : Bool
  bid        : Bool
  depthBoost : Bool
  policy     : Policy
  cls        : BitVec 3
  quota      : Nat
  queue      : List Record
  missed     : Nat
  credits    : Nat
  deriving DecidableEq, Repr

/-- The state of a source, derived from the stack and its queue (R31). -/
inductive SourceState where
  | idle | pending | active | preempted
  deriving DecidableEq, Repr

/-- The six line modes (R51). -/
inductive LineMode where
  | off | rise | fall | both | levelHigh | levelLow
  deriving DecidableEq, Repr

/-- The state of one line (R45). -/
structure Line where
  raw    : Bool
  qual   : Bool
  run    : Nat
  seeded : Bool
  mode   : LineMode
  filter : Nat
  deriving DecidableEq, Repr

/-- What a timer does at an expiry (R72). -/
inductive TimerMode where
  | oneShot | repeating
  deriving DecidableEq, Repr

/-- An interval timer (R72). `running` is true in state RUNNING. -/
structure Timer where
  period  : Word
  mode    : TimerMode
  running : Bool
  count   : Word
  deriving DecidableEq, Repr

/-- The budget states of a context (R129). -/
inductive BudgetState where
  | unlimited | running | paused | expired
  deriving DecidableEq, Repr

/-- A context of the nesting stack (R103). -/
structure Context where
  source     : Fin 24
  grantedBid : Nat
  heldClass  : BitVec 3
  grantStamp : Word
  taken      : Nat
  remaining  : Word
  bstate     : BudgetState
  deriving DecidableEq, Repr

/-- What a take found (R113). -/
inductive TakeResult where
  | none | event | empty | noContext
  deriving DecidableEq, Repr

/-- The event latch (R113). -/
structure EventLatch where
  result : TakeResult
  kind   : Option Kind
  source : Fin 24
  datum  : Byte
  stamp  : Word
  missed : Nat
  deriving DecidableEq, Repr

/-- What an expiry of a class's context does beyond raising the alert (R126). -/
inductive BudgetAction where
  | notify | demote
  deriving DecidableEq, Repr

/-- The Budget Unit's two fields of one class (R126). -/
structure ClassBudget where
  budget : Word
  action : BudgetAction
  deriving DecidableEq, Repr

/-- One bit for each alert flag, as ALERT_FLAGS and ALERT_ENABLE hold them (R134, R155). -/
structure AlertBits where
  budget    : Bool
  poolLow   : Bool
  poolEmpty : Bool
  missed    : Bool
  deriving DecidableEq, Repr

/-- The answers of CMD_STATUS (R148). -/
inductive Answer where
  | ok | noContext | notInService | outOfOrder | badSource | badTimer | disabled | dropped | replaced
  deriving DecidableEq, Repr

/-- The state of the part, and the queue of commands that wait for it. -/
structure State where
  /-- RESET_N is low (R150). -/
  resetLow : Bool
  /-- The byte the part drives on D7 to D0 in the command just done; none when it drives nothing (R141). -/
  dataOut : Option Byte
  /-- TB_DIV (R65). -/
  divider : Word
  /-- CLK periods since the interval in progress began (R65). -/
  clkCount : Nat
  /-- The divider in force when the interval in progress began (R65). -/
  intervalDivider : Word
  /-- TB_RUN (R66). -/
  tbRun : Bool
  /-- The timestamp (R67). -/
  timestamp : Word
  /-- The Line Input Unit (R45). -/
  lines : Vector Line 16
  /-- The Interval Timer Unit (R72). -/
  timers : Vector Timer 4
  /-- POST_SRC (R79). -/
  postSrc : Byte
  /-- The free count of the Slot Pool (R4). -/
  freeCount : Nat
  /-- LOW_MARK (R6). -/
  lowMark : Nat
  /-- The Source Table (R23). -/
  sources : Vector Source 24
  /-- AGE_PERIOD (R87). -/
  agePeriod : Word
  /-- The aging count (R87). -/
  agingCount : Word
  /-- FLOOR (R93). -/
  floor : Byte
  /-- The nesting stack, top first (R104). -/
  stack : List Context
  /-- The event latch (R113). -/
  latch : EventLatch
  /-- The Budget Unit, by class (R126). -/
  budgets : Vector ClassBudget 8
  /-- The four alert flags (R134). -/
  flags : AlertBits
  /-- ALERT_ENABLE (R137). -/
  enables : AlertBits
  /-- ALERT_SOURCE (R138). -/
  alertSource : Fin 24
  /-- SRC_SEL (R36). -/
  srcSel : Byte
  /-- CTX_SEL (R105). -/
  ctxSel : Byte
  /-- TIMER_SEL (R72). -/
  timerSel : Byte
  /-- BUDGET_SEL (R126). -/
  budgetSel : Byte
  /-- CMD_STATUS (R148). -/
  cmdStatus : Answer
  /-- The read latches, one per 16-bit view (R144), in the order of `View`. -/
  readLatch : Vector Byte 11
  /-- The holding bytes, one per writable 16-bit value (R145), in the order of `WideValue`. -/
  holding : Vector Byte 5
  /-- MODEL'S OWN: how many free values have been drawn (log 5). -/
  draws : Nat
  /-- MODEL'S OWN: the commands that wait, the first to be taken in front (log 1). -/
  pending : List Instr
  deriving DecidableEq, Repr

/-- Reasons for a fault. None: the manual gives the part no fault, and every command ends in a next state. -/
inductive Fault where
  deriving DecidableEq, Repr

/-- Reasons for a refusal. -/
inductive Refusal where
  /-- A row of the table without a meaning; only exec's arms may raise it, and none does. Safe: the model stops where the part goes on. -/
  | notModelled (mnemonic : String)
  deriving DecidableEq, Repr

/-- The reset value of source record `i` (R43, R22). -/
def Source.reset (i : Fin 24) : Source :=
  { admitOn := false, bid := false, depthBoost := false,
    policy := if 20 ≤ i.val then .coalesce else .keepOldest,
    cls := 0, quota := 4, queue := [], missed := 0, credits := 0 }

/-- The reset value of a line (R63). -/
def Line.reset : Line := { raw := false, qual := false, run := 0, seeded := false, mode := .off, filter := 3 }

/-- The reset value of a timer (R78). -/
def Timer.reset : Timer := { period := 0, mode := .oneShot, running := false, count := 0 }

/-- The event latch with result NONE and every other field 0 (R102). -/
def EventLatch.reset : EventLatch := { result := .none, kind := none, source := 0, datum := 0, stamp := 0, missed := 0 }

/-- The Budget Unit's fields of a class at reset (R139). -/
def ClassBudget.reset : ClassBudget := { budget := 0, action := .notify }

/-- All four bits off (R139). -/
def AlertBits.off : AlertBits := { budget := false, poolLow := false, poolEmpty := false, missed := false }

/-- The part right after RESET_N is released (R150): every block at the reset values of its chapter (R22, R43, R63, R71, R78, R82, R100,
R125, R139, R150). `dataOut` is not driven (R141). `draws` and `pending` are the model's own (log 1, log 5: DESIGN CHOICE). -/
def State.reset : State :=
  { resetLow := false, dataOut := none,
    divider := 1000, clkCount := 0, intervalDivider := 1000, tbRun := true, timestamp := 0,
    lines := Vector.replicate 16 Line.reset,
    timers := Vector.replicate 4 Timer.reset,
    postSrc := 16, freeCount := 64, lowMark := 8,
    sources := Vector.ofFn Source.reset,
    agePeriod := 0, agingCount := 0, floor := 0,
    stack := [], latch := EventLatch.reset,
    budgets := Vector.replicate 8 ClassBudget.reset,
    flags := AlertBits.off, enables := AlertBits.off, alertSource := 0,
    srcSel := 0, ctxSel := 0, timerSel := 0, budgetSel := 0, cmdStatus := .ok,
    readLatch := Vector.replicate 11 0, holding := Vector.replicate 5 0,
    draws := 0, pending := [] }

end Sys2Proof.Machine
end

