-- ==== Sys2Proof/Machine/Operands.lean ====
section
/-! DEFINITION. The byte layouts (08, section 6): halves of a 16-bit value, operands that name a source, timer or class, and the
codes of every field, as read and as written. -/

namespace Sys2Proof.Machine

/-- The low byte of a 16-bit value. -/
def loByte (w : Word) : Byte := w.extractLsb' 0 8

/-- The high byte of a 16-bit value. -/
def hiByte (w : Word) : Byte := w.extractLsb' 8 8

/-- The 16-bit value with the given low and high bytes (R145). -/
def joinBytes (lo hi : Byte) : Word := hi ++ lo

/-- The source a byte names: 0 to 23, taken whole (R147). -/
def sourceOf (b : Byte) : Option (Fin 24) := if h : b.toNat < 24 then some ⟨b.toNat, h⟩ else none

/-- The timer a byte names: 0 to 3, taken whole (R147). -/
def timerOf (b : Byte) : Option (Fin 4) := if h : b.toNat < 4 then some ⟨b.toNat, h⟩ else none

/-- The class a selector byte names: 0 to 7 (R126). -/
def classOf (b : Byte) : Option (Fin 8) := if h : b.toNat < 8 then some ⟨b.toNat, h⟩ else none

/-- The line of a line source (R23). -/
def lineOf (i : Fin 24) : Option (Fin 16) := if h : i.val < 16 then some ⟨i.val, h⟩ else none

/-- The source of a line (R23). -/
def lineSource (n : Fin 16) : Fin 24 := ⟨n.val, by omega⟩

/-- The source of a timer, 20 + n (R23). -/
def timerSource (n : Fin 4) : Fin 24 := ⟨20 + n.val, by omega⟩

/-- True of the interval sources 20 to 23 (R23). -/
def isInterval (i : Fin 24) : Bool := 20 ≤ i.val

/-- True of the posted sources 16 to 19 (R23). -/
def isPosted (i : Fin 24) : Bool := 16 ≤ i.val && i.val < 20

/-- A source number as a byte. -/
def sourceByte (i : Fin 24) : Byte := BitVec.ofNat 8 i.val

/-- The posted source that POST_SRC selects: 16 to 19, else none (R79). -/
def postedSource (b : Byte) : Option (Fin 24) := (sourceOf b).filter isPosted

/-- The code of an answer (R148). -/
def Answer.code : Answer → Byte
  | .ok => 0x00 | .noContext => 0x01 | .notInService => 0x02 | .outOfOrder => 0x03 | .badSource => 0x04
  | .badTimer => 0x05 | .disabled => 0x06 | .dropped => 0x07 | .replaced => 0x08

/-- The kind code of LATCH_HDR bits 2:0; 0 is none (R152). -/
def kindCode : Option Kind → Byte
  | none => 0 | some .rise => 1 | some .fall => 2 | some .level => 3 | some .post => 4 | some .interval => 5

/-- The result code of LATCH_HDR bits 7:6, in place (R152). -/
def TakeResult.code : TakeResult → Byte
  | .none => 0x00 | .event => 0x40 | .empty => 0x80 | .noContext => 0xC0

/-- The header byte of the latch (R152). -/
def EventLatch.header (l : EventLatch) : Byte := l.result.code ||| kindCode l.kind

/-- The grant byte of a grant that pushed a context for `w` (R151). -/
def grantByte (w : Fin 24) : Byte := 0x80 ||| sourceByte w

/-- One bit of a byte set or clear. -/
def flagBit (b : Bool) (k : Nat) : Byte := if b then 1#8 <<< k else 0

/-- The policy code of SRC_CFG bits 5:4, in place (R153). -/
def Policy.code : Policy → Byte
  | .keepOldest => 0x00 | .keepNewest => 0x10 | .coalesce => 0x20

/-- The policy a written SRC_CFG byte names for a line or posted source: code 1 is KEEP_NEWEST, every other code stores KEEP_OLDEST (R153). -/
def policyOfByte (b : Byte) : Policy := if b.extractLsb' 4 2 = 1#2 then .keepNewest else .keepOldest

/-- The SRC_CFG byte (R153). -/
def Source.cfgByte (q : Source) : Byte :=
  flagBit q.admitOn 0 ||| flagBit q.bid 1 ||| flagBit q.depthBoost 2 ||| q.policy.code

/-- The four fields a written SRC_CFG byte sets together; the policy of an interval source stays (R37, R153). -/
def Source.writeCfg (i : Fin 24) (q : Source) (b : Byte) : Source :=
  { q with admitOn := b.getLsbD 0, bid := b.getLsbD 1, depthBoost := b.getLsbD 2,
           policy := if isInterval i then q.policy else policyOfByte b }

/-- The quota a written byte stores: within 1 to 16 (R30). -/
def clampQuota (b : Byte) : Nat := if b.toNat = 0 then 1 else min 16 b.toNat

/-- The class a written byte stores: its low three bits (R29). -/
def classOfByte (b : Byte) : BitVec 3 := b.extractLsb' 0 3

/-- The mode code of SRC_LINE bits 2:0 (R153). -/
def LineMode.code : LineMode → Byte
  | .off => 0 | .rise => 1 | .fall => 2 | .both => 3 | .levelHigh => 4 | .levelLow => 5

/-- The mode a written SRC_LINE byte names; codes 6 and 7 store OFF (R51, R153). -/
def lineModeOfByte (b : Byte) : LineMode :=
  if b.extractLsb' 0 3 = 1#3 then .rise
  else if b.extractLsb' 0 3 = 2#3 then .fall
  else if b.extractLsb' 0 3 = 3#3 then .both
  else if b.extractLsb' 0 3 = 4#3 then .levelHigh
  else if b.extractLsb' 0 3 = 5#3 then .levelLow
  else .off

/-- The filter count a written SRC_LINE byte stores: bits 7:4, with 0 stored as 1 (R50). -/
def filterOfByte (b : Byte) : Nat := max 1 (b.extractLsb' 4 4).toNat

/-- The SRC_LINE byte (R153). -/
def Line.cfgByte (l : Line) : Byte := (BitVec.ofNat 8 l.filter <<< 4) ||| l.mode.code

/-- The state code of SRC_STATE bits 7:6, in place (R153). -/
def SourceState.code : SourceState → Byte
  | .idle => 0x00 | .pending => 0x40 | .active => 0x80 | .preempted => 0xC0

/-- The mode a written TIMER_CTRL byte stores: bit 0; every other bit is ignored (R154). -/
def timerModeOfByte (b : Byte) : TimerMode := if b.getLsbD 0 then .repeating else .oneShot

/-- The TIMER_CTRL byte (R154). -/
def Timer.ctrlByte (t : Timer) : Byte := flagBit (t.mode == .repeating) 0 ||| flagBit t.running 7

/-- The budget state code of CTX_BSTATE (R154). -/
def BudgetState.code : BudgetState → Byte
  | .unlimited => 0 | .running => 1 | .paused => 2 | .expired => 3

/-- The action code of BUDGET_ACTION (R154). -/
def BudgetAction.code : BudgetAction → Byte
  | .notify => 0 | .demote => 1

/-- The action a written BUDGET_ACTION byte stores: code 1 is DEMOTE, every other code stores NOTIFY (R128, R154). -/
def actionOfByte (b : Byte) : BudgetAction := if b.extractLsb' 0 2 = 1#2 then .demote else .notify

/-- The mark a written LOW_MARK byte stores: 64 to 255 store 63 (R6). -/
def clampMark (b : Byte) : Nat := min 63 b.toNat

/-- The place of a view's latch among the eleven read latches (R144). -/
def viewIndex : View → Fin 11
  | .latchStamp => 0 | .agePeriod => 1 | .tbDiv => 2 | .stamp => 3 | .lineRaw => 4 | .lineQual => 5
  | .timerPeriod => 6 | .timerCount => 7 | .budget => 8 | .ctxStamp => 9 | .ctxBudget => 10

/-- The place of a writable value's holding byte among the five (R145). -/
def wideIndex : WideValue → Fin 5
  | .agePeriod => 0 | .tbDiv => 1 | .stamp => 2 | .timerPeriod => 3 | .budget => 4

end Sys2Proof.Machine
end

