-- ==== Sys2Proof/Machine/Flags.lean ====
section
/-! DEFINITION. The Alert Unit's bits: setting a flag, clearing by ones, the byte of ALERT_FLAGS and ALERT_ENABLE, and ALERT_N. -/

namespace Sys2Proof.Machine

/-- The ALERT_FLAGS or ALERT_ENABLE byte (R155). -/
def AlertBits.byte (a : AlertBits) : Byte :=
  flagBit a.budget 0 ||| flagBit a.poolLow 1 ||| flagBit a.poolEmpty 2 ||| flagBit a.missed 3

/-- The four bits a byte holds in those positions; bits 7:4 are ignored (R155). -/
def AlertBits.ofByte (b : Byte) : AlertBits :=
  { budget := b.getLsbD 0, poolLow := b.getLsbD 1, poolEmpty := b.getLsbD 2, missed := b.getLsbD 3 }

/-- The flags after a write of `b` to ALERT_FLAGS: each flag written as 1 is cleared, the others stay (R136). -/
def AlertBits.clearOnes (a : AlertBits) (b : Byte) : AlertBits :=
  { budget := a.budget && !b.getLsbD 0, poolLow := a.poolLow && !b.getLsbD 1,
    poolEmpty := a.poolEmpty && !b.getLsbD 2, missed := a.missed && !b.getLsbD 3 }

/-- True when a flag is set whose enable is on (R137). -/
def AlertBits.anyEnabled (flags enables : AlertBits) : Bool :=
  (flags.budget && enables.budget) || (flags.poolLow && enables.poolLow) ||
  (flags.poolEmpty && enables.poolEmpty) || (flags.missed && enables.missed)

/-- ALERT_N is asserted: an enabled flag is set, and RESET_N is not low (R137, R150). -/
def State.alertAsserted (s : State) : Bool := !s.resetLow && s.flags.anyEnabled s.enables

/-- BUDGET set (R132). -/
def State.setBudgetFlag (s : State) : State := { s with flags := { s.flags with budget := true } }

/-- POOL_LOW set (R6). -/
def State.setPoolLow (s : State) : State := { s with flags := { s.flags with poolLow := true } }

/-- POOL_EMPTY set (R7). -/
def State.setPoolEmpty (s : State) : State := { s with flags := { s.flags with poolEmpty := true } }

/-- MISSED set (R16). -/
def State.setMissed (s : State) : State := { s with flags := { s.flags with missed := true } }

end Sys2Proof.Machine
end

