-- ==== Sys2Proof/Machine/Ops.lean ====
section
/-! DEFINITION. The shared operations: the wrapper every command runs in, access to source records, the slot pool and admission
(01), the derived states, bids, winner and grant condition (02, 05), level re-assertion (03), push, pop and take (06). -/

namespace Sys2Proof.Machine

/-! ### The bus -/

/-- The part drives nothing on D7 to D0 (R141). -/
def State.undriven (s : State) : State := { s with dataOut := none }

/-- A command that drives nothing on D7 to D0: while RESET_N is low it has no effect (R150), else its effect is `f`. -/
def unlessReset (s : State) (f : State → State) : State :=
  if s.resetLow then s.undriven else f s.undriven

/-- A bus cycle that reads: while RESET_N is low it has no effect and drives nothing (R150), else `f` gives the byte driven on D7 to
D0 and the effect. -/
def readUnlessReset (s : State) (f : State → Byte × State) : State :=
  if s.resetLow then s.undriven else { (f s.undriven).2 with dataOut := some (f s.undriven).1 }

/-- CMD_STATUS takes an answer (R148). -/
def State.answer (s : State) (a : Answer) : State := { s with cmdStatus := a }

/-! ### Source records -/

/-- The record of source `i`. -/
def State.src (s : State) (i : Fin 24) : Source := s.sources[i]

/-- Source `i` gets the record `q`. -/
def State.setSrc (s : State) (i : Fin 24) (q : Source) : State := { s with sources := s.sources.set i q }

/-- The sources in ascending order. -/
def allSources : List (Fin 24) := List.finRange 24

/-- The lines in ascending order. -/
def allLines : List (Fin 16) := List.finRange 16

/-- True when `i` is the source of a context on the stack. -/
def State.onStack (s : State) (i : Fin 24) : Bool := s.stack.any fun c => c.source == i

/-- The derived state of a source (R31). -/
def State.sourceState (s : State) (i : Fin 24) : SourceState :=
  match s.stack with
  | [] => if (s.src i).queue.isEmpty then .idle else .pending
  | c :: rest =>
    if c.source = i then .active
    else if rest.any fun d => d.source == i then .preempted
    else if (s.src i).queue.isEmpty then .idle else .pending

/-- Eligibility: BID on, queue non-empty, state PENDING (R32). -/
def State.eligible (s : State) (i : Fin 24) : Bool :=
  (s.src i).bid && !(s.src i).queue.isEmpty && s.sourceState i == .pending

/-- The depth bonus (R83). -/
def Source.depthBonus (q : Source) : Nat := if q.depthBoost then q.queue.length - 1 else 0

/-- The bid of a source record (R83). -/
def Source.bidValue (q : Source) : Nat := 32 * q.cls.toNat + q.depthBonus + q.credits

/-- The bid of a source as its record stands (R83, R84). -/
def State.bidOf (s : State) (i : Fin 24) : Nat := (s.src i).bidValue

/-! ### Arbitration -/

/-- One step of the arbitration in ascending source order: an eligible source takes the place of the best so far when its bid is
higher, so a tie stays with the lower number (R85). -/
def State.better (s : State) (best : Option (Fin 24)) (i : Fin 24) : Option (Fin 24) :=
  if s.eligible i then
    match best with
    | none => some i
    | some b => if s.bidOf b < s.bidOf i then some i else some b
  else best

/-- The winner: the eligible source with the highest bid, the lower number on a tie; none when no source is eligible (R85). -/
def State.winner (s : State) : Option (Fin 24) := allSources.foldl s.better none

/-- The grant condition for a given winner (R94). -/
def State.canGrant (s : State) (w : Fin 24) : Bool :=
  match s.stack with
  | [] => s.floor.toNat ≤ s.bidOf w
  | c :: _ => s.stack.length < 6 && c.heldClass.toNat < (s.src w).cls.toNat

/-- The grant condition (R94). -/
def State.grantCondition (s : State) : Bool := s.winner.any s.canGrant

/-- REQ_N is asserted: the grant condition holds, and RESET_N is not low (R96). -/
def State.reqAsserted (s : State) : Bool := !s.resetLow && s.grantCondition

/-! ### The slot pool and admission -/

/-- An allocation: the free count falls by 1, and crossing from LOW_MARK to LOW_MARK − 1 sets POOL_LOW (R5, R6). -/
def State.allocate (s : State) : State :=
  if s.freeCount = s.lowMark then { s.setPoolLow with freeCount := s.freeCount - 1 }
  else { s with freeCount := s.freeCount - 1 }

/-- A release of `n` slots; it sets no flag (R5). -/
def State.release (s : State) (n : Nat) : State := { s with freeCount := s.freeCount + n }

/-- The record `r` is appended at the tail of its source's queue (R9). -/
def State.append (s : State) (r : Record) : State :=
  s.setSrc r.source { s.src r.source with queue := (s.src r.source).queue ++ [r] }

/-- A lost event of source `i`: its missed count rises by 1, saturating at 255, and MISSED is set (R16). -/
def State.lose (s : State) (i : Fin 24) : State :=
  (s.setSrc i { s.src i with missed := min 255 ((s.src i).missed + 1) }).setMissed

/-- A displacement: the head record of the queue is lost, and `r` is appended in its slot (R13). -/
def State.displace (s : State) (r : Record) : State :=
  (s.setSrc r.source { s.src r.source with queue := (s.src r.source).queue.tail ++ [r] }).lose r.source

/-- COALESCE: the admission of an expiry of an interval source with ADMIT on (R11). -/
def State.coalesce (s : State) (r : Record) : State :=
  match (s.src r.source).queue with
  | h :: t =>
    if h.datum = 255 then s.lose r.source
    else s.setSrc r.source { s.src r.source with queue := { h with datum := h.datum + 1 } :: t }
  | [] => if s.freeCount = 0 then (s.setPoolEmpty).lose r.source else s.allocate.append r

/-- Admission of an arrival for a line or posted source with ADMIT on, with the answer a POST gets (R12 to R15). A policy other than
KEEP_NEWEST keeps the oldest; a line or posted source never holds COALESCE (log 16). -/
def State.enqueue (s : State) (r : Record) : Answer × State :=
  if (s.src r.source).quota ≤ (s.src r.source).queue.length then
    if (s.src r.source).policy = .keepNewest then (.replaced, s.displace r) else (.dropped, s.lose r.source)
  else if s.freeCount = 0 then
    if (s.src r.source).policy = .keepNewest ∧ (s.src r.source).queue ≠ [] then (.replaced, s.setPoolEmpty.displace r)
    else (.dropped, s.setPoolEmpty.lose r.source)
  else (.ok, s.allocate.append r)

/-- Admission of an arrival, with the answer that a POST gets: ADMIT first, then COALESCE for an interval source, then the queue and
the pool (R10, 01 section 4). The answer of an interval arrival is read by nobody. -/
def State.admitArrival (s : State) (r : Record) : Answer × State :=
  if !(s.src r.source).admitOn then (.disabled, s)
  else if isInterval r.source then (.ok, s.coalesce r)
  else s.enqueue r

/-! ### Lines and re-assertion -/

/-- The sixteen raw levels, bit k for line k (R61). -/
def State.rawWord (s : State) : Word := BitVec.ofFnLE fun n : Fin 16 => s.lines[n].raw

/-- The sixteen qualified levels, bit k for line k (R61). -/
def State.qualWord (s : State) : Word := BitVec.ofFnLE fun n : Fin 16 => s.lines[n].qual

/-- The eight qualified levels of the octet that contains line `n` (R3). -/
def State.octet (s : State) (n : Fin 16) : Byte := if n.val < 8 then loByte s.qualWord else hiByte s.qualWord

/-- True of the two LEVEL modes (R54). -/
def LineMode.isLevel : LineMode → Bool
  | .levelHigh | .levelLow => true
  | .off | .rise | .fall | .both => false

/-- A level source's line is active: seeded, with its qualified level at the active level of its mode (R54). -/
def Line.active (l : Line) : Bool :=
  l.seeded && match l.mode with
    | .levelHigh => l.qual
    | .levelLow => !l.qual
    | .off | .rise | .fall | .both => false

/-- The re-assertion test for line `n`: LEVEL mode, line active, queue empty, source not on the stack (R55). -/
def State.reassertable (s : State) (n : Fin 16) : Bool :=
  s.lines[n].mode.isLevel && s.lines[n].active && (s.src (lineSource n)).queue.isEmpty && !s.onStack (lineSource n)

/-- The record of a re-assertion: the timestamp and the octet as they stand at the bus cycle (R55). -/
def State.reassertRecord (s : State) (n : Fin 16) : Record :=
  { source := lineSource n, kind := .level, stamp := s.timestamp, datum := s.octet n }

/-- An occasion for re-assertion of line `n`: the test, and when it passes an ordinary arrival (R55). -/
def State.reassert (s : State) (n : Fin 16) : State :=
  if s.reassertable n then (s.admitArrival (s.reassertRecord n)).2 else s

/-! ### The stack -/

/-- BUDGET and ACTION of a class (R126). -/
def State.classBudget (s : State) (c : BitVec 3) : ClassBudget := s.budgets[c.toNat]'c.isLt

/-- What a push does to the former top: a RUNNING budget is PAUSED with its count (R109). -/
def Context.pause (c : Context) : Context := if c.bstate = .running then { c with bstate := .paused } else c

/-- What a pop does to the context it brings to level 0: a PAUSED budget is RUNNING with its count (R121). -/
def Context.resume (c : Context) : Context := if c.bstate = .paused then { c with bstate := .running } else c

/-- The stack with its top context changed by `f`; an empty stack stays. -/
def onTop (f : Context → Context) : List Context → List Context
  | [] => []
  | c :: rest => f c :: rest

/-- The context a grant pushes for `w` (R108). -/
def State.newContext (s : State) (w : Fin 24) : Context :=
  { source := w, grantedBid := s.bidOf w, heldClass := (s.src w).cls, grantStamp := s.timestamp, taken := 0,
    remaining := (s.classBudget (s.src w).cls).budget,
    bstate := if (s.classBudget (s.src w).cls).budget = 0 then .unlimited else .running }

/-- A push: the former top is paused, the new context goes to level 0, and the winner's age credits are cleared (R108, R109, R90). -/
def State.push (s : State) (w : Fin 24) : State :=
  { s with stack := s.newContext w :: onTop Context.pause s.stack }.setSrc w { s.src w with credits := 0 }

/-- A grant: the grant byte, and the push when the grant condition holds (R107, R108, R110). -/
def State.grant (s : State) : Byte × State :=
  match s.winner with
  | none => (0, s)
  | some w => if s.canGrant w then (grantByte w, s.push w) else (0, s)

/-- A pop: the top context leaves, its source is tested for re-assertion when it is a line source, and the context brought to level 0
is resumed (R120, R121, R56). On an empty stack there is nothing to pop. -/
def State.pop (s : State) : State :=
  match s.stack with
  | [] => s
  | c :: rest =>
    let s1 := { s with stack := rest }
    let s2 := match lineOf c.source with
      | some n => s1.reassert n
      | none => s1
    { s2 with stack := onTop Context.resume s2.stack }

/-- `n` pops, one after another. -/
def State.popMany : Nat → State → State
  | 0, s => s
  | n + 1, s => State.popMany n s.pop

/-- The queue of source `i` emptied by FLUSH or CLEAR, or by its last take: the age credits are cleared (R90). -/
def Source.emptied (q : Source) : Source := { q with queue := [], credits := 0 }

/-- The source record after a take that delivered its head, `t` being the rest of the queue: the missed count is delivered and cleared,
and the credits are cleared when the queue is now empty (R115, R90). -/
def Source.afterTake (q : Source) (t : List Record) : Source :=
  { q with queue := t, missed := 0, credits := if t.isEmpty then 0 else q.credits }

/-- The taken count after one more delivery: 255 stays 255 (R115). -/
def Context.countTaken (c : Context) : Context := { c with taken := min 255 (c.taken + 1) }

/-- The effect of a take (R114 to R116). -/
def State.takeEffect (s : State) : State :=
  match s.stack with
  | [] => { s with latch := { EventLatch.reset with result := .noContext } }
  | c :: rest =>
    match (s.src c.source).queue with
    | h :: t =>
      ({ s with
          latch := { result := .event, kind := some h.kind, source := c.source, datum := h.datum, stamp := h.stamp,
                     missed := (s.src c.source).missed },
          stack := c.countTaken :: rest }.setSrc c.source ((s.src c.source).afterTake t)).release 1
    | [] =>
      { s with latch := { result := .empty, kind := none, source := c.source, datum := 0, stamp := 0,
                          missed := (s.src c.source).missed } }.setSrc c.source { s.src c.source with missed := 0 }

/-- A take: the new header byte and the effect (R113). -/
def State.takeEvent (s : State) : Byte × State := (s.takeEffect.latch.header, s.takeEffect)

end Sys2Proof.Machine
end

