-- ==== Sys2Proof/Machine/Pins.lean ====
section
/-! DEFINITION. The RESET_N pin: the commands RESET_N_LOW and RESET_N_RELEASE (R150). -/

namespace Sys2Proof.Machine

/-- Every block at its reset values (R22, R43, R63, R71, R78, R82, R100, R125, R139, R150). The model's own fields, the counter of drawn
free values and the queue, are no part of the hardware and stay. -/
def State.hardwareReset (s : State) : State := { State.reset with draws := s.draws, pending := s.pending }

/-- RESET_N_LOW (R150): hardware reset. The blocks hold their reset values from here on (log 6); bus cycles, ticks and arrivals stop, and
REQ_N and ALERT_N are released. -/
def execResetNLow (s : State) : Host.Outcome State Fault Refusal := .next { s.hardwareReset with resetLow := true }

/-- RESET_N_RELEASE (R150): with RESET_N low, every block starts from its reset values and a new tick interval begins from 0. With RESET_N
already high there is no release, and nothing happens (log 6). -/
def execResetNRelease (s : State) : Host.Outcome State Fault Refusal :=
  .next (if s.resetLow then s.hardwareReset else s.undriven)

end Sys2Proof.Machine
end

