-- ==== Sys2Proof/Machine/Ticks.lean ====
section
/-! DEFINITION. The Timebase and what a tick hands on (04, 03, 05, 07): the commands TICK, TIMER_EXPIRY, AGING_EXPIRY and
BUDGET_EXPIRY, and one CLK period of a part that no command waits for. -/

namespace Sys2Proof.Machine

/-! ### The Timebase -/

/-- The tick period of a divider in CLK periods; a stored 0 stands for 65536 (R65). -/
def tickPeriod (d : Word) : Nat := if d = 0 then 65536 else d.toNat

/-- The Timebase at a tick: the timestamp rises by 1, and a new interval begins from 0 under the divider now stored (R65, R67). -/
def State.advanceTime (s : State) : State :=
  { s with timestamp := s.timestamp + 1, clkCount := 0, intervalDivider := s.divider }

/-- Ticks come: TB_RUN is 1 and RESET_N is not low (R66, R150). -/
def State.ticking (s : State) : Bool := s.tbRun && !s.resetLow

/-! ### The lines -/

/-- One line at a tick: seeding (R47) or the qualification step (R48). -/
def Line.sample (l : Line) (level : Bool) : Line :=
  if !l.seeded then { l with raw := level, qual := level, run := 0, seeded := true }
  else if level = l.qual then { l with raw := level, run := 0 }
  else if l.run + 1 < l.filter then { l with raw := level, run := l.run + 1 }
  else { l with raw := level, qual := level, run := 0 }

/-- The sample qualifies a transition: a seeded line whose level differs, with the run count plus 1 at least the filter count (R48). -/
def Line.qualifies (l : Line) (level : Bool) : Bool := l.seeded && level != l.qual && decide (l.filter ≤ l.run + 1)

/-- The kind of arrival that a mode makes of a rise (`true`) or a fall (`false`) (R51). -/
def LineMode.arrivalKind : LineMode → Bool → Option Kind
  | .off, _ => none
  | .rise, true => some .rise
  | .rise, false => none
  | .fall, true => none
  | .fall, false => some .fall
  | .both, true => some .rise
  | .both, false => some .fall
  | .levelHigh, true => some .level
  | .levelHigh, false => none
  | .levelLow, true => none
  | .levelLow, false => some .level

/-- All sixteen lines take the sample; bit k of `w` is the level of LNk (R46). -/
def State.sampleLines (s : State) (w : Word) : State :=
  { s with lines := Vector.ofFn fun n : Fin 16 => s.lines[n].sample (w.getLsbD n.val) }

/-- The arrival that line `n` makes at the tick that takes sample `w`: none, or one record with the tick's timestamp and the octet as the
tick leaves it (R52). `s` is the part before the sample, its timestamp already the tick's. -/
def State.lineArrival (s : State) (w : Word) (n : Fin 16) : Option Record :=
  if s.lines[n].qualifies (w.getLsbD n.val) then
    (s.lines[n].mode.arrivalKind (w.getLsbD n.val)).map fun k =>
      { source := lineSource n, kind := k, stamp := s.timestamp, datum := (s.sampleLines w).octet n }
  else none

/-- The arrivals that the lines make at a tick, in ascending source order. -/
def State.lineArrivals (s : State) (w : Word) : List Record := allLines.filterMap (s.lineArrival w)

/-! ### The interval timers -/

/-- The tick's decrement takes the count of a RUNNING timer to 0 (R75). -/
def Timer.expires (t : Timer) : Bool := t.running && t.count == 1

/-- A timer after its expiry: REPEAT reloads the period then stored, ONE_SHOT stops at 0 (R75). -/
def Timer.continued (t : Timer) : Timer :=
  match t.mode with
  | .repeating => { t with count := t.period }
  | .oneShot => { t with running := false, count := 0 }

/-- A timer at a tick: a RUNNING count falls by 1, 0 falling to 65535, and an expiry continues by the mode; a STOPPED timer stays (R75). -/
def Timer.counted (t : Timer) : Timer :=
  if t.expires then t.continued
  else if t.running then { t with count := t.count - 1 } else t

/-- The arrival of an expiry of timer `n` (R75, R3). -/
def State.expiryRecord (s : State) (n : Fin 4) : Record :=
  { source := timerSource n, kind := .interval, stamp := s.timestamp, datum := 1 }

/-- The arrivals that the timers make at a tick, in ascending source order. -/
def State.timerArrivals (s : State) : List Record :=
  (List.finRange 4).filterMap fun n => if s.timers[n].expires then some (s.expiryRecord n) else none

/-- All four timers count the tick. -/
def State.countTimers (s : State) : State := { s with timers := Vector.ofFn fun n : Fin 4 => s.timers[n].counted }

/-- An expiry of timer `n`: the arrival for source 20 + n, then the timer continues by its mode (R75). -/
def State.expireTimer (s : State) (n : Fin 4) : State :=
  let s1 := (s.admitArrival (s.expiryRecord n)).2
  { s1 with timers := s1.timers.set n s1.timers[n].continued }

/-! ### Aging -/

/-- The tick takes the aging count to 0 (R88). -/
def State.agingDue (s : State) : Bool := s.agePeriod != 0 && s.agingCount == 1

/-- The aging count at a tick: lowered by 1 while AGE_PERIOD is not 0, and loaded again when it reaches 0 (R88). -/
def State.countAging (s : State) : State :=
  if s.agePeriod = 0 then s
  else if s.agingCount = 1 then { s with agingCount := s.agePeriod }
  else { s with agingCount := s.agingCount - 1 }

/-- An aging expiry's credits: one more for every eligible source below 16 (R89). -/
def State.grantCredits (s : State) : State :=
  { s with sources := Vector.ofFn fun i : Fin 24 =>
      if s.eligible i && decide ((s.src i).credits < 16) then { s.src i with credits := (s.src i).credits + 1 } else s.src i }

/-! ### Budgets -/

/-- The tick takes the remaining count of a RUNNING top context to 0 (R130). -/
def State.budgetDue (s : State) : Bool :=
  match s.stack with
  | [] => false
  | c :: _ => c.bstate == .running && c.remaining == 1

/-- The expiring context: EXPIRED with 0 remaining, and held class 0 under DEMOTE (R132, R133). -/
def Context.expire (a : BudgetAction) (c : Context) : Context :=
  { c with bstate := .expired, remaining := 0, heldClass := if a = .demote then 0 else c.heldClass }

/-- The expiry of the top context's budget: EXPIRED, the BUDGET flag, ALERT_SOURCE, and the ACTION of its held class (R132). -/
def State.expireBudget (s : State) : State :=
  match s.stack with
  | [] => s
  | c :: rest =>
    { s.setBudgetFlag with
        stack := c.expire (s.classBudget c.heldClass).action :: rest
        alertSource := c.source }

/-- The Budget Unit at a tick: a RUNNING top context's count falls by 1, and expires at 0 (R130). -/
def State.countBudget (s : State) : State :=
  match s.stack with
  | [] => s
  | c :: rest =>
    if c.bstate = .running then
      if c.remaining = 1 then s.expireBudget else { s with stack := { c with remaining := c.remaining - 1 } :: rest }
    else s

/-! ### The works of one tick whose order the manual leaves open -/

/-- An arrival the tick makes, or its aging expiry (R70). -/
inductive TickWork where
  | arrive (r : Record)
  | age
  deriving DecidableEq, Repr

/-- The work's number for `Config.tickRank`: the arrival's source, or 24. -/
def TickWork.index : TickWork → Nat
  | .arrive r => r.source.val
  | .age => 24

/-- A work taken whole. -/
def State.doWork (s : State) : TickWork → State
  | .arrive r => (s.admitArrival r).2
  | .age => s.grantCredits

/-- The works of a tick: the line arrivals, the timer arrivals and the aging expiry. -/
def tickWorks (arrivals : List Record) (age : Bool) : List TickWork :=
  arrivals.map .arrive ++ if age then [.age] else []

/-- The arrival needs a slot of the pool (R7). -/
def State.needsSlot (s : State) (r : Record) : Bool :=
  (s.src r.source).admitOn &&
    if isInterval r.source then (s.src r.source).queue.isEmpty
    else decide ((s.src r.source).queue.length < (s.src r.source).quota)

/-- Some but not all of the arrivals that need a slot can have one, so that their order matters (R5). -/
def State.contended (s : State) (arrivals : List Record) : Bool :=
  decide (0 < s.freeCount) && decide (s.freeCount < (arrivals.filter s.needsSlot).length)

/-- The arrival may make an IDLE source with BID on eligible, so that its order with an aging expiry matters (R92). -/
def State.mayBecomeEligible (s : State) (r : Record) : Bool :=
  s.needsSlot r && (s.src r.source).bid && (s.src r.source).queue.isEmpty && !s.onStack r.source

/-- The order of the tick's works matters. -/
def State.orderMatters (s : State) (arrivals : List Record) (age : Bool) : Bool :=
  s.contended arrivals || (age && arrivals.any s.mayBecomeEligible)

/-- The works in the order in which they are taken: as listed where the order does not matter, else by the free ranks (log 5). -/
def State.ordered (s : State) (arrivals : List Record) (age : Bool) : List TickWork :=
  if s.orderMatters arrivals age then
    (tickWorks arrivals age).insertionSort fun a b => Config.tickRank s.draws a.index ≤ Config.tickRank s.draws b.index
  else tickWorks arrivals age

/-- A drawn order is used once. -/
def State.drawOrder (s : State) (arrivals : List Record) (age : Bool) : State :=
  if s.orderMatters arrivals age then { s with draws := s.draws + 1 } else s

/-- The part's own counting at a tick: lines, timers, aging count and budget of the top context, each on its own state (R70). -/
def State.countTick (s : State) (w : Word) : State := ((s.sampleLines w).countTimers.countAging).countBudget

/-- The arrivals of the tick that takes sample `w`; `s` has the tick's timestamp and nothing else of the tick. -/
def State.tickArrivals (s : State) (w : Word) : List Record := s.lineArrivals w ++ s.timerArrivals

/-- A tick, whole, with everything it hands on (R66, R70): the timestamp; the sample of the lines, the counts and the budget; then the
arrivals and the aging expiry, in an order that is free where the manual leaves it open. -/
def State.tickEffect (s : State) (w : Word) : State :=
  let s1 := s.advanceTime
  let s2 := s1.countTick w
  (s2.ordered (s1.tickArrivals w) s1.agingDue).foldl State.doWork (s2.drawOrder (s1.tickArrivals w) s1.agingDue)

/-! ### The commands -/

/-- TICK (R65, R70): while ticks come, a tick with sample `lines`; else no tick occurs. -/
def execTick (lines : Word) (s : State) : Host.Outcome State Fault Refusal :=
  .next (if s.ticking then s.undriven.tickEffect lines else s.undriven)

/-- TIMER_EXPIRY (R75): timer `n`'s part of an expiring tick. It finds the timer RUNNING with count 1, lowers it to 0 and expires it; with
any other count, or while no tick comes, the count does not reach 0 and nothing happens (log 4). -/
def execTimerExpiry (n : Fin 4) (s : State) : Host.Outcome State Fault Refusal :=
  .next (if s.ticking && s.timers[n].expires then s.undriven.expireTimer n else s.undriven)

/-- AGING_EXPIRY (R88, R89): the Aging Unit's part of an expiring tick. It finds the aging count at 1, lowers it to 0, loads it again and
grants the credits; otherwise the count does not reach 0 and nothing happens (log 4). -/
def execAgingExpiry (s : State) : Host.Outcome State Fault Refusal :=
  .next (if s.ticking && s.agingDue then s.undriven.countAging.grantCredits else s.undriven)

/-- BUDGET_EXPIRY (R130, R132): the Budget Unit's part of an expiring tick. It finds the top context RUNNING with 1 remaining, lowers it to
0 and expires it; otherwise the count does not reach 0 and nothing happens (log 4). -/
def execBudgetExpiry (s : State) : Host.Outcome State Fault Refusal :=
  .next (if s.ticking && s.budgetDue then s.undriven.expireBudget else s.undriven)

/-- One CLK period while no command waits (R65; log 2): the CLK count rises by 1, and when it reaches the tick period of the interval in
progress a tick occurs, with free levels on the lines. While no tick comes nothing happens. -/
def State.clkPeriod (s : State) : State :=
  if s.ticking then
    if s.clkCount + 1 < tickPeriod s.intervalDivider then { s.undriven with clkCount := s.clkCount + 1 }
    else { s.undriven with draws := s.draws + 1 }.tickEffect (Config.lineLevels s.draws)
  else s.undriven

end Sys2Proof.Machine
end

