-- ==== Sys2Proof/Machine/Registers.lean ====
section
/-! DEFINITION. The other configuration writes with a row of their own: FLOOR, AGE_PERIOD H, TB_DIV H, TB_CTRL, STAMP H, TIMER_PERIOD H,
TIMER_CTRL, BUDGET H, BUDGET_ACTION, LOW_MARK, ALERT_FLAGS, ALERT_ENABLE, and the low-byte writes of R145. -/

namespace Sys2Proof.Machine

/-- The holding byte of a writable 16-bit value (R145). -/
def State.held (s : State) (v : WideValue) : Byte := s.holding[wideIndex v]

/-- The value that a high-byte write of `b` joins (R145). -/
def State.joined (s : State) (v : WideValue) (b : Byte) : Word := joinBytes (s.held v) b

/-- FLOOR's effect (R93). -/
def State.writeFloor (b : Byte) (s : State) : State := { s with floor := b }

/-- FLOOR (R93). REQ_N follows the grant condition, which is derived from the state as the write leaves it. -/
def execFloor (b : Byte) (s : State) : Host.Outcome State Fault Refusal := .next (unlessReset s (State.writeFloor b))

/-- AGE_PERIOD H's effect: the period is stored and the aging count loaded with it, at every such write (R87). -/
def State.writeAgePeriod (b : Byte) (s : State) : State :=
  { s with agePeriod := s.joined .agePeriod b, agingCount := s.joined .agePeriod b }

/-- AGE_PERIOD_H (R87). -/
def execAgePeriodH (b : Byte) (s : State) : Host.Outcome State Fault Refusal := .next (unlessReset s (State.writeAgePeriod b))

/-- TB_DIV H's effect: the divider is stored; the interval in progress keeps the one in force when it began (R65). -/
def State.writeTbDiv (b : Byte) (s : State) : State := { s with divider := s.joined .tbDiv b }

/-- TB_DIV_H (R65). -/
def execTbDivH (b : Byte) (s : State) : Host.Outcome State Fault Refusal := .next (unlessReset s (State.writeTbDiv b))

/-- TB_CTRL's effect (R66): a 0 while TB_RUN is 1 abandons the interval with its CLK count; a 1 while TB_RUN is 0 begins a new interval from
0 under the divider then stored; a write that leaves TB_RUN as it is changes nothing. -/
def State.writeTbCtrl (b : Byte) (s : State) : State :=
  if b.getLsbD 0 = s.tbRun then s
  else if b.getLsbD 0 then { s with tbRun := true, clkCount := 0, intervalDivider := s.divider }
  else { s with tbRun := false, clkCount := 0 }

/-- TB_CTRL (R66). -/
def execTbCtrl (b : Byte) (s : State) : Host.Outcome State Fault Refusal := .next (unlessReset s (State.writeTbCtrl b))

/-- STAMP H's effect (R68). -/
def State.writeStamp (b : Byte) (s : State) : State := { s with timestamp := s.joined .stamp b }

/-- STAMP_H (R68). -/
def execStampH (b : Byte) (s : State) : Host.Outcome State Fault Refusal := .next (unlessReset s (State.writeStamp b))

/-- A change of the timer that TIMER_SEL selects; ignored when it selects none (R72). -/
def State.onTimer (s : State) (f : Timer → Timer) : State :=
  match timerOf s.timerSel with
  | none => s
  | some n => { s with timers := s.timers.set n (f s.timers[n]) }

/-- TIMER_PERIOD H's effect (R76). -/
def State.writeTimerPeriod (b : Byte) (s : State) : State := s.onTimer fun t => { t with period := s.joined .timerPeriod b }

/-- TIMER_PERIOD_H (R76). -/
def execTimerPeriodH (b : Byte) (s : State) : Host.Outcome State Fault Refusal := .next (unlessReset s (State.writeTimerPeriod b))

/-- TIMER_CTRL's effect: the mode alone (R76, R154). -/
def State.writeTimerCtrl (b : Byte) (s : State) : State := s.onTimer fun t => { t with mode := timerModeOfByte b }

/-- TIMER_CTRL (R76). -/
def execTimerCtrl (b : Byte) (s : State) : Host.Outcome State Fault Refusal := .next (unlessReset s (State.writeTimerCtrl b))

/-- A change of the class fields that BUDGET_SEL selects; ignored when it selects none (R126). -/
def State.onClass (s : State) (f : ClassBudget → ClassBudget) : State :=
  match classOf s.budgetSel with
  | none => s
  | some c => { s with budgets := s.budgets.set c (f s.budgets[c]) }

/-- BUDGET H's effect (R127). -/
def State.writeBudget (b : Byte) (s : State) : State := s.onClass fun x => { x with budget := s.joined .budget b }

/-- BUDGET_H (R127). -/
def execBudgetH (b : Byte) (s : State) : Host.Outcome State Fault Refusal := .next (unlessReset s (State.writeBudget b))

/-- BUDGET_ACTION's effect (R128). -/
def State.writeBudgetAction (b : Byte) (s : State) : State := s.onClass fun x => { x with action := actionOfByte b }

/-- BUDGET_ACTION (R128). -/
def execBudgetAction (b : Byte) (s : State) : Host.Outcome State Fault Refusal := .next (unlessReset s (State.writeBudgetAction b))

/-- LOW_MARK's effect: stored within 0 to 63, setting no flag (R6). -/
def State.writeLowMark (b : Byte) (s : State) : State := { s with lowMark := clampMark b }

/-- LOW_MARK (R6). -/
def execLowMark (b : Byte) (s : State) : Host.Outcome State Fault Refusal := .next (unlessReset s (State.writeLowMark b))

/-- ALERT_FLAGS's effect (R136). -/
def State.writeAlertFlags (b : Byte) (s : State) : State := { s with flags := s.flags.clearOnes b }

/-- ALERT_FLAGS (R136). -/
def execAlertFlags (b : Byte) (s : State) : Host.Outcome State Fault Refusal := .next (unlessReset s (State.writeAlertFlags b))

/-- ALERT_ENABLE's effect (R137). -/
def State.writeAlertEnable (b : Byte) (s : State) : State := { s with enables := AlertBits.ofByte b }

/-- ALERT_ENABLE (R137). -/
def execAlertEnable (b : Byte) (s : State) : Host.Outcome State Fault Refusal := .next (unlessReset s (State.writeAlertEnable b))

/-- The value has a record to be written to: a page value needs its selector to choose a timer or a class (R145). -/
def State.reachesWide (s : State) : WideValue → Bool
  | .agePeriod | .tbDiv | .stamp => true
  | .timerPeriod => (timerOf s.timerSel).isSome
  | .budget => (classOf s.budgetSel).isSome

/-- A low-byte write: the holding byte alone, and not even that while a page value's selector chooses no record (R145). -/
def State.writeHolding (v : WideValue) (b : Byte) (s : State) : State :=
  if s.reachesWide v then { s with holding := s.holding.set (wideIndex v) b } else s

/-- HOLDING_BYTE_WRITE (R145). -/
def execHoldingByteWrite (v : WideValue) (b : Byte) (s : State) : Host.Outcome State Fault Refusal :=
  .next (unlessReset s (State.writeHolding v b))

end Sys2Proof.Machine
end

