-- ==== Sys2Proof/Machine/Service.lean ====
section
/-! DEFINITION. Service: GRANT, ACKNOWLEDGE_CYCLE, TAKE, END_SERVICE and UNWIND (06). -/

namespace Sys2Proof.Machine

/-- GRANT (R107): a read of GRANT. -/
def execGrant (s : State) : Host.Outcome State Fault Refusal := .next (readUnlessReset s State.grant)

/-- ACKNOWLEDGE_CYCLE (R143): exactly the effect of a read of GRANT, whatever CS_N and the address hold. -/
def execAcknowledgeCycle (_csN : Bool) (_addr : BitVec 6) (s : State) : Host.Outcome State Fault Refusal :=
  .next (readUnlessReset s State.grant)

/-- TAKE (R113): a read of TAKE. -/
def execTake (s : State) : Host.Outcome State Fault Refusal := .next (readUnlessReset s State.takeEvent)

/-- The cases of END_SERVICE in the order of the table of R119: on an empty stack NO_CONTEXT, whatever the operand (R119, R147). For a source
whose own pop emptied the stack the manual also says NOT_IN_SERVICE (R119's example, R156's last sentence, 08 section 7), and so it does for
a source ended, granted again and now below the top, which the table answers OUT_OF_ORDER (R156's last sentence against its third row).
There is no ruling; the table of R119 is followed in both (DESIGN CHOICE, log 20). -/
def State.endService (b : Byte) (s : State) : State :=
  match s.stack with
  | [] => s.answer .noContext
  | c :: rest =>
    match sourceOf b with
    | none => s.answer .badSource
    | some i =>
      if c.source = i then s.pop.answer .ok
      else if rest.any fun d => d.source == i then s.answer .outOfOrder
      else s.answer .notInService

/-- END_SERVICE (R119). -/
def execEndService (b : Byte) (s : State) : Host.Outcome State Fault Refusal := .next (unlessReset s (State.endService b))

/-- UNWIND's effect: every context popped from the top down, or NO_CONTEXT (R122). -/
def State.unwind (s : State) : State :=
  if s.stack.isEmpty then s.answer .noContext else (State.popMany s.stack.length s).answer .ok

/-- UNWIND (R122). The written byte is ignored. -/
def execUnwind (_b : Byte) (s : State) : Host.Outcome State Fault Refusal := .next (unlessReset s State.unwind)

end Sys2Proof.Machine
end

