-- ==== Sys2Proof/Machine/SourcePage.lean ====
section
/-! DEFINITION. Writes on the source page, to the source that SRC_SEL selects: SRC_CFG (R37), SRC_CLASS (R29), SRC_QUOTA (R30) and
SRC_LINE (R39). With SRC_SEL at 24 to 255 each is ignored (R36). -/

namespace Sys2Proof.Machine

/-- A change of the selected source record; ignored when SRC_SEL selects none (R36). -/
def State.onSelected (s : State) (f : Fin 24 → Source → Source) : State :=
  match sourceOf s.srcSel with
  | none => s
  | some i => s.setSrc i (f i (s.src i))

/-- SRC_CFG's effect (R37). -/
def State.writeSrcCfg (b : Byte) (s : State) : State := s.onSelected fun i q => q.writeCfg i b

/-- SRC_CFG (R37). -/
def execSrcCfg (b : Byte) (s : State) : Host.Outcome State Fault Refusal := .next (unlessReset s (State.writeSrcCfg b))

/-- SRC_CLASS's effect (R29). -/
def State.writeSrcClass (b : Byte) (s : State) : State := s.onSelected fun _ q => { q with cls := classOfByte b }

/-- SRC_CLASS (R29, R38). -/
def execSrcClass (b : Byte) (s : State) : Host.Outcome State Fault Refusal := .next (unlessReset s (State.writeSrcClass b))

/-- SRC_QUOTA's effect (R30). -/
def State.writeSrcQuota (b : Byte) (s : State) : State := s.onSelected fun _ q => { q with quota := clampQuota b }

/-- SRC_QUOTA (R30, R38). -/
def execSrcQuota (b : Byte) (s : State) : Host.Outcome State Fault Refusal := .next (unlessReset s (State.writeSrcQuota b))

/-- The mode and filter count of line `n` from one byte (R39). -/
def State.setLineCfg (s : State) (n : Fin 16) (b : Byte) : State :=
  { s with lines := s.lines.set n { s.lines[n] with mode := lineModeOfByte b, filter := filterOfByte b } }

/-- A write of the mode and filter count of line `n`; a change of the mode to a LEVEL mode is an occasion for re-assertion, after both are
stored (R53, R58). -/
def State.writeLine (s : State) (n : Fin 16) (b : Byte) : State :=
  if lineModeOfByte b ≠ s.lines[n].mode ∧ (lineModeOfByte b).isLevel then (s.setLineCfg n b).reassert n
  else s.setLineCfg n b

/-- SRC_LINE's effect: ignored unless SRC_SEL selects a line source (R39). -/
def State.writeSrcLine (b : Byte) (s : State) : State :=
  match (sourceOf s.srcSel).bind lineOf with
  | none => s
  | some n => s.writeLine n b

/-- SRC_LINE (R39). -/
def execSrcLine (b : Byte) (s : State) : Host.Outcome State Fault Refusal := .next (unlessReset s (State.writeSrcLine b))

end Sys2Proof.Machine
end

