-- ==== Sys2Proof/Machine/Strobes.lean ====
section
/-! DEFINITION. The other strobes and POST: FLUSH (R20), CLEAR (R149), POST (R80), TIMER_ARM (R73) and TIMER_STOP (R74). -/

namespace Sys2Proof.Machine

/-- A flush of source `i`: every record released, the credits cleared, the missed count kept (R20). -/
def State.flushSource (s : State) (i : Fin 24) : State :=
  (s.setSrc i (s.src i).emptied).release (s.src i).queue.length

/-- FLUSH's effect (R20). -/
def State.flush (b : Byte) (s : State) : State :=
  match sourceOf b with
  | none => s.answer .badSource
  | some i => (s.flushSource i).answer .ok

/-- FLUSH (R20). -/
def execFlush (b : Byte) (s : State) : Host.Outcome State Fault Refusal := .next (unlessReset s (State.flush b))

/-- Parts 1 to 3 of CLEAR (R149): the stack and the latch, the queues, the pool, the missed counts and the credits, the flags. -/
def State.clearWork (s : State) : State :=
  { s with
      stack := [], latch := EventLatch.reset
      sources := Vector.ofFn fun i : Fin 24 => { (s.src i).emptied with missed := 0 }
      freeCount := 64
      flags := AlertBits.off }

/-- CLEAR's effect: parts 1 to 3, then the re-assertion tests in ascending source order, then OK (R149, R57). -/
def State.clear (s : State) : State := (allLines.foldl State.reassert s.clearWork).answer .ok

/-- CLEAR (R149). The written byte is ignored. -/
def execClear (_b : Byte) (s : State) : Host.Outcome State Fault Refusal := .next (unlessReset s State.clear)

/-- The record of a POST write (R80). -/
def State.postRecord (s : State) (i : Fin 24) (b : Byte) : Record :=
  { source := i, kind := .post, stamp := s.timestamp, datum := b }

/-- POST's effect (R80). -/
def State.post (b : Byte) (s : State) : State :=
  match postedSource s.postSrc with
  | none => s.answer .badSource
  | some i => (s.admitArrival (s.postRecord i b)).2.answer (s.admitArrival (s.postRecord i b)).1

/-- POST (R80). -/
def execPost (b : Byte) (s : State) : Host.Outcome State Fault Refusal := .next (unlessReset s (State.post b))

/-- TIMER_ARM's effect (R73). -/
def State.armTimer (b : Byte) (s : State) : State :=
  match timerOf b with
  | none => s.answer .badTimer
  | some n => { s with timers := s.timers.set n { s.timers[n] with running := true, count := s.timers[n].period } }.answer .ok

/-- TIMER_ARM (R73). -/
def execTimerArm (b : Byte) (s : State) : Host.Outcome State Fault Refusal := .next (unlessReset s (State.armTimer b))

/-- TIMER_STOP's effect (R74). -/
def State.stopTimer (b : Byte) (s : State) : State :=
  match timerOf b with
  | none => s.answer .badTimer
  | some n => { s with timers := s.timers.set n { s.timers[n] with running := false } }.answer .ok

/-- TIMER_STOP (R74). -/
def execTimerStop (b : Byte) (s : State) : Host.Outcome State Fault Refusal := .next (unlessReset s (State.stopTimer b))

end Sys2Proof.Machine
end

