-- ==== Sys2Proof/Machine/Window.lean ====
section
/-! DEFINITION. The register window (08): the byte every address reads, the 16-bit views and their latches (R144), and the write of any
register (R142). -/

namespace Sys2Proof.Machine

/-! ### The pages -/

/-- The context at the level CTX_SEL holds; none at or beyond the depth (R105). -/
def State.ctxAt (s : State) : Option Context := s.stack[s.ctxSel.toNat]?

/-- The source record that SRC_SEL selects (R36). -/
def State.selectedSource (s : State) : Option Source := (sourceOf s.srcSel).map s.src

/-- The line that SRC_SEL selects, when it selects a line source (R39). -/
def State.selectedLine (s : State) : Option Line := ((sourceOf s.srcSel).bind lineOf).map fun n => s.lines[n]

/-- The timer that TIMER_SEL selects (R72). -/
def State.selectedTimer (s : State) : Option Timer := (timerOf s.timerSel).map fun n => s.timers[n]

/-- The class fields that BUDGET_SEL selects (R126). -/
def State.selectedClass (s : State) : Option ClassBudget := (classOf s.budgetSel).map fun c => s.budgets[c]

/-- The byte a page address shows: 00h while the selector reaches no record (R146). -/
def pageByte {α : Type} (r : Option α) (f : α → Byte) : Byte := (r.map f).getD 0

/-- The value a page's 16-bit view shows: 0 while the selector reaches no record (R144). -/
def pageWord {α : Type} (r : Option α) (f : α → Word) : Word := (r.map f).getD 0

/-! ### The views -/

/-- The value of a 16-bit view as it stands (R144). -/
def State.viewWord (s : State) : View → Word
  | .latchStamp => s.latch.stamp
  | .agePeriod => s.agePeriod
  | .tbDiv => s.divider
  | .stamp => s.timestamp
  | .lineRaw => s.rawWord
  | .lineQual => s.qualWord
  | .timerPeriod => pageWord s.selectedTimer Timer.period
  | .timerCount => pageWord s.selectedTimer Timer.count
  | .budget => pageWord s.selectedClass ClassBudget.budget
  | .ctxStamp => pageWord s.ctxAt Context.grantStamp
  | .ctxBudget => pageWord s.ctxAt Context.remaining

/-- The latched high byte of a view (R144). -/
def State.latched (s : State) (v : View) : Byte := s.readLatch[viewIndex v]

/-- The view has a record to show: a page view needs its selector to reach one (R146). -/
def State.reachesView (s : State) : View → Bool
  | .latchStamp | .agePeriod | .tbDiv | .stamp | .lineRaw | .lineQual => true
  | .timerPeriod | .timerCount => s.selectedTimer.isSome
  | .budget => s.selectedClass.isSome
  | .ctxStamp | .ctxBudget => s.ctxAt.isSome

/-- The byte at a view's high address: its latch (R144), but 00h while the selector of its page reaches no record (R72, R105, R126, R146,
R154; R124: CLEAR keeps the latches, and every level of the context page reads 00h). For a high read after a low read whose record a
selector write or a pop has since taken off the page, R144 and R106 say the latch; the six rules are followed (DESIGN CHOICE between rules, log 8; unsafe). The read leaves the latch as it is. -/
def State.highByte (s : State) (v : View) : Byte := if s.reachesView v then s.latched v else 0

/-- A low-byte read: the low byte, with the high byte of the same value latched (R144). -/
def State.readLow (v : View) (s : State) : Byte × State :=
  (loByte (s.viewWord v), { s with readLatch := s.readLatch.set (viewIndex v) (hiByte (s.viewWord v)) })

/-- LOW_BYTE_READ (R144). -/
def execLowByteRead (v : View) (s : State) : Host.Outcome State Fault Refusal := .next (readUnlessReset s (State.readLow v))

/-- The WINNER byte (R98, R151). -/
def State.winnerByte (s : State) : Byte :=
  flagBit s.grantCondition 7 ||| flagBit s.winner.isSome 6 ||| (s.winner.map sourceByte).getD 0

/-- The SRC_STATE byte of source `i` (R40, R153). -/
def State.stateByte (s : State) (i : Fin 24) : Byte :=
  (s.sourceState i).code ||| BitVec.ofNat 8 (s.src i).queue.length

/-- The SRC_BID byte of source `i`: its bid while it is eligible, else 0 (R42). -/
def State.bidByte (s : State) (i : Fin 24) : Byte := if s.eligible i then BitVec.ofNat 8 (s.bidOf i) else 0

/-- The byte each address holds for a read (R142 and the layouts of 08, section 6): a high byte as `highByte` says, a strobe 00h (R147). A
read drives it on D7 to D0 only while RESET_N is not low: `readCycle`, and `busCycle` in Bus.lean for every cycle. -/
def State.windowRead (s : State) : Reg → Byte
  | .grant => s.grant.1
  | .winner => s.winnerByte
  | .take => s.takeEvent.1
  | .latchHdr => s.latch.header
  | .latchSrc => sourceByte s.latch.source
  | .latchDatum => s.latch.datum
  | .latchStampL => loByte (s.viewWord .latchStamp)
  | .latchStampH => s.highByte .latchStamp
  | .latchMissed => BitVec.ofNat 8 s.latch.missed
  | .stackDepth => BitVec.ofNat 8 s.stack.length
  | .cmdStatus => s.cmdStatus.code
  | .endService | .unwind | .flush | .clear | .post | .timerArm | .timerStop => 0
  | .postSrc => s.postSrc
  | .floor => s.floor
  | .agePeriodL => loByte (s.viewWord .agePeriod)
  | .agePeriodH => s.highByte .agePeriod
  | .tbDivL => loByte (s.viewWord .tbDiv)
  | .tbDivH => s.highByte .tbDiv
  | .tbCtrl => flagBit s.tbRun 0
  | .stampL => loByte (s.viewWord .stamp)
  | .stampH => s.highByte .stamp
  | .freeCount => BitVec.ofNat 8 s.freeCount
  | .lowMark => BitVec.ofNat 8 s.lowMark
  | .alertFlags => s.flags.byte
  | .alertEnable => s.enables.byte
  | .alertSource => sourceByte s.alertSource
  | .lineRawL => loByte (s.viewWord .lineRaw)
  | .lineRawH => s.highByte .lineRaw
  | .lineQualL => loByte (s.viewWord .lineQual)
  | .lineQualH => s.highByte .lineQual
  | .timerSel => s.timerSel
  | .timerPeriodL => loByte (s.viewWord .timerPeriod)
  | .timerPeriodH => s.highByte .timerPeriod
  | .timerCountL => loByte (s.viewWord .timerCount)
  | .timerCountH => s.highByte .timerCount
  | .timerCtrl => pageByte s.selectedTimer Timer.ctrlByte
  | .budgetSel => s.budgetSel
  | .budgetL => loByte (s.viewWord .budget)
  | .budgetH => s.highByte .budget
  | .budgetAction => pageByte s.selectedClass fun x => x.action.code
  | .ctxSel => s.ctxSel
  | .ctxSrc => pageByte s.ctxAt fun c => sourceByte c.source
  | .ctxClass => pageByte s.ctxAt fun c => c.heldClass.setWidth 8
  | .ctxBid => pageByte s.ctxAt fun c => BitVec.ofNat 8 c.grantedBid
  | .ctxStampL => loByte (s.viewWord .ctxStamp)
  | .ctxStampH => s.highByte .ctxStamp
  | .ctxTaken => pageByte s.ctxAt fun c => BitVec.ofNat 8 c.taken
  | .ctxBudgetL => loByte (s.viewWord .ctxBudget)
  | .ctxBudgetH => s.highByte .ctxBudget
  | .ctxBstate => pageByte s.ctxAt fun c => c.bstate.code
  | .srcSel => s.srcSel
  | .srcCfg => pageByte s.selectedSource Source.cfgByte
  | .srcClass => pageByte s.selectedSource fun q => q.cls.setWidth 8
  | .srcQuota => pageByte s.selectedSource fun q => BitVec.ofNat 8 q.quota
  | .srcLine => pageByte s.selectedLine Line.cfgByte
  | .srcState => pageByte (sourceOf s.srcSel) s.stateByte
  | .srcMissed => pageByte s.selectedSource fun q => BitVec.ofNat 8 q.missed
  | .srcBid => pageByte (sourceOf s.srcSel) s.bidByte

/-- A read of a register that has no row of its own: D7 to D0 carry the register's byte and nothing else changes (R142; log 10); while
RESET_N is low the read has no effect and drives nothing (R150). -/
def State.readCycle (s : State) (r : Reg) : State := readUnlessReset s fun u => (u.windowRead r, u)

/-! ### Writes -/

/-- A write of byte `b` to a register (R142). The registers with no row of their own come first: the four page selectors (R146) and POST_SRC
(R79) store the byte, and a write to a read-only address is ignored. A register with a row of its own does what that row does
(log 11). -/
def State.windowWrite (r : Reg) (b : Byte) (s : State) : State :=
  match r with
  | .srcSel => { s with srcSel := b }
  | .ctxSel => { s with ctxSel := b }
  | .timerSel => { s with timerSel := b }
  | .budgetSel => { s with budgetSel := b }
  | .postSrc => { s with postSrc := b }
  | .grant | .winner | .take | .latchHdr | .latchSrc | .latchDatum | .latchStampL | .latchStampH | .latchMissed | .stackDepth | .cmdStatus
  | .freeCount | .alertSource | .lineRawL | .lineRawH | .lineQualL | .lineQualH | .timerCountL | .timerCountH | .ctxSrc | .ctxClass | .ctxBid
  | .ctxStampL | .ctxStampH | .ctxTaken | .ctxBudgetL | .ctxBudgetH | .ctxBstate | .srcState | .srcMissed | .srcBid => s
  | .endService => s.endService b
  | .unwind => s.unwind
  | .flush => s.flush b
  | .clear => s.clear
  | .post => s.post b
  | .floor => s.writeFloor b
  | .agePeriodL => s.writeHolding .agePeriod b
  | .agePeriodH => s.writeAgePeriod b
  | .tbDivL => s.writeHolding .tbDiv b
  | .tbDivH => s.writeTbDiv b
  | .tbCtrl => s.writeTbCtrl b
  | .stampL => s.writeHolding .stamp b
  | .stampH => s.writeStamp b
  | .lowMark => s.writeLowMark b
  | .alertFlags => s.writeAlertFlags b
  | .alertEnable => s.writeAlertEnable b
  | .timerPeriodL => s.writeHolding .timerPeriod b
  | .timerPeriodH => s.writeTimerPeriod b
  | .timerCtrl => s.writeTimerCtrl b
  | .timerArm => s.armTimer b
  | .timerStop => s.stopTimer b
  | .budgetL => s.writeHolding .budget b
  | .budgetH => s.writeBudget b
  | .budgetAction => s.writeBudgetAction b
  | .srcCfg => s.writeSrcCfg b
  | .srcClass => s.writeSrcClass b
  | .srcQuota => s.writeSrcQuota b
  | .srcLine => s.writeSrcLine b

/-- REGISTER_WRITE (R142). -/
def execRegisterWrite (r : Reg) (b : Byte) (s : State) : Host.Outcome State Fault Refusal :=
  .next (unlessReset s (State.windowWrite r b))

end Sys2Proof.Machine
end

