-- ==== Sys2Proof/Machine/Dispatch.lean ====
section
/-! DEFINITION. One arm per row of spec/opcode_table.json, in the table's order, each one direct call of its meaning. -/

namespace Sys2Proof.Machine

def exec (i : Instr) (s : State) : Host.Outcome State Fault Refusal :=
  match i with
  | .resetNLow => Sys2Proof.Machine.execResetNLow s
  | .resetNRelease => Sys2Proof.Machine.execResetNRelease s
  | .tick lines => Sys2Proof.Machine.execTick lines s
  | .timerExpiry n => Sys2Proof.Machine.execTimerExpiry n s
  | .agingExpiry => Sys2Proof.Machine.execAgingExpiry s
  | .budgetExpiry => Sys2Proof.Machine.execBudgetExpiry s
  | .grant => Sys2Proof.Machine.execGrant s
  | .acknowledgeCycle csN addr => Sys2Proof.Machine.execAcknowledgeCycle csN addr s
  | .take => Sys2Proof.Machine.execTake s
  | .endService b => Sys2Proof.Machine.execEndService b s
  | .unwind b => Sys2Proof.Machine.execUnwind b s
  | .flush b => Sys2Proof.Machine.execFlush b s
  | .clear b => Sys2Proof.Machine.execClear b s
  | .post b => Sys2Proof.Machine.execPost b s
  | .timerArm b => Sys2Proof.Machine.execTimerArm b s
  | .timerStop b => Sys2Proof.Machine.execTimerStop b s
  | .srcCfg b => Sys2Proof.Machine.execSrcCfg b s
  | .srcClass b => Sys2Proof.Machine.execSrcClass b s
  | .srcQuota b => Sys2Proof.Machine.execSrcQuota b s
  | .srcLine b => Sys2Proof.Machine.execSrcLine b s
  | .floor b => Sys2Proof.Machine.execFloor b s
  | .agePeriodH b => Sys2Proof.Machine.execAgePeriodH b s
  | .tbDivH b => Sys2Proof.Machine.execTbDivH b s
  | .tbCtrl b => Sys2Proof.Machine.execTbCtrl b s
  | .stampH b => Sys2Proof.Machine.execStampH b s
  | .timerPeriodH b => Sys2Proof.Machine.execTimerPeriodH b s
  | .timerCtrl b => Sys2Proof.Machine.execTimerCtrl b s
  | .budgetH b => Sys2Proof.Machine.execBudgetH b s
  | .budgetAction b => Sys2Proof.Machine.execBudgetAction b s
  | .lowMark b => Sys2Proof.Machine.execLowMark b s
  | .alertFlags b => Sys2Proof.Machine.execAlertFlags b s
  | .alertEnable b => Sys2Proof.Machine.execAlertEnable b s
  | .holdingByteWrite v b => Sys2Proof.Machine.execHoldingByteWrite v b s
  | .lowByteRead v => Sys2Proof.Machine.execLowByteRead v s
  | .registerWrite r b => Sys2Proof.Machine.execRegisterWrite r b s

end Sys2Proof.Machine
end

