-- ==== Sys2Proof/Machine/Bus.lean ====
section
/-! DEFINITION. A cycle of the host bus, whatever the pins make of it: a row of the table, a read that has no row, or no cycle (08,
section 1). -/

namespace Sys2Proof.Machine

/-- The effect of one bus cycle (R141, R142): the command it is, where it is one; a read with no row drives its register's byte and changes
nothing else (log 10); no cycle drives nothing and changes nothing. While RESET_N is low every cycle drives nothing and changes nothing
(R150). -/
def State.busCycle (s : State) : Cycle → Host.Outcome State Fault Refusal
  | .read r =>
    match r.readCommand with
    | some c => exec c s
    | none => .next (s.readCycle r)
  | .write r b => exec (r.writeCommand b) s
  | .acknowledge csN addr => exec (.acknowledgeCycle csN addr) s
  | .noCycle => .next s.undriven

end Sys2Proof.Machine
end

