-- ==== Sys2Proof/Safety.lean ====
section
/-! DEFINITION. What the manual says is always so: the bounds and relations between fields that every step keeps, as decidable
propositions. Statements about all states use them as premises where a state that no run reaches would be an exception. -/

namespace Sys2Proof.Machine

/-- The number of records in all queues. -/
def State.totalDepth (s : State) : Nat := (allSources.map fun i => (s.src i).queue.length).sum

/-- The kinds a source's queue can hold (R1, note 1). -/
def kindFits (i : Fin 24) (k : Kind) : Bool :=
  if isInterval i then k == .interval
  else if isPosted i then k == .post
  else k == .rise || k == .fall || k == .level

/-- A source record within its ranges (R9, R16, R23, R30, R83): depth at most 16, and at most 1 for an interval source; quota 1 to 16; missed
count at most 255; credits at most 16; COALESCE exactly for interval sources; every record its own source's and of a kind that fits. -/
abbrev Source.InRange (i : Fin 24) (q : Source) : Prop :=
  q.queue.length ≤ 16 ∧ (isInterval i = true → q.queue.length ≤ 1) ∧
  1 ≤ q.quota ∧ q.quota ≤ 16 ∧ q.missed ≤ 255 ∧ q.credits ≤ 16 ∧
  (q.policy = .coalesce ↔ isInterval i = true) ∧
  ∀ r ∈ q.queue, r.source = i ∧ kindFits i r.kind = true

/-- Every source record is within its ranges. -/
abbrev State.SourcesInRange (s : State) : Prop := ∀ i, (s.src i).InRange i

/-- The free count plus the sum of the depths is 64 (R4). -/
abbrev State.PoolBalanced (s : State) : Prop := s.freeCount + s.totalDepth = 64

/-- A source whose queue is empty, or which is the source of a context, has zero age credits (R90). -/
abbrev State.CreditsCleared (s : State) : Prop :=
  ∀ i, (s.src i).queue = [] ∨ s.onStack i = true → (s.src i).credits = 0

/-- A context within its ranges (R103, R129): granted bid at most 255, taken at most 255, remaining 0 exactly when UNLIMITED or EXPIRED, and the
held class is the granted bid divided by 32, or 0 in an EXPIRED context. -/
abbrev Context.InRange (c : Context) : Prop :=
  c.grantedBid ≤ 255 ∧ c.taken ≤ 255 ∧
  (c.remaining = 0 ↔ c.bstate = .unlimited ∨ c.bstate = .expired) ∧
  (c.heldClass.toNat = c.grantedBid / 32 ∨ (c.bstate = .expired ∧ c.heldClass = 0))

/-- At most the top context is RUNNING, and the top is not PAUSED (R129). -/
def budgetsNested : List Context → Bool
  | [] => true
  | c :: rest => c.bstate != .paused && rest.all fun d => d.bstate != .running

/-- The stack holds at most 6 contexts, of different sources, each within its ranges, RUNNING at the top alone (R104, R129). -/
abbrev State.StackSound (s : State) : Prop :=
  s.stack.length ≤ 6 ∧ (s.stack.map Context.source).Nodup ∧ (∀ c ∈ s.stack, c.InRange) ∧ budgetsNested s.stack = true

/-- A line within its ranges (R45, R47): run count at most 14, filter count 1 to 15, and before seeding raw and qualified level 0 and run
count 0. -/
abbrev Line.InRange (l : Line) : Prop :=
  l.run ≤ 14 ∧ 1 ≤ l.filter ∧ l.filter ≤ 15 ∧ (l.seeded = false → l.raw = false ∧ l.qual = false ∧ l.run = 0)

/-- Every line is within its ranges. -/
abbrev State.LinesInRange (s : State) : Prop := ∀ n : Fin 16, s.lines[n].InRange

/-- The aging count is 0 exactly when aging is off, and never above the period (R87, R88). -/
abbrev State.AgingSound (s : State) : Prop :=
  (s.agingCount = 0 ↔ s.agePeriod = 0) ∧ s.agingCount.toNat ≤ s.agePeriod.toNat

/-- The CLK count is below the tick period of the interval in progress (R65). -/
abbrev State.ClockSound (s : State) : Prop := s.clkCount < tickPeriod s.intervalDivider

/-- The event latch holds what its result allows (R113): a kind exactly with EVENT; datum and stamp 0 without EVENT; source and missed 0 with
NONE and NO_CONTEXT; missed at most 255. -/
abbrev State.LatchSound (s : State) : Prop :=
  (s.latch.kind.isSome = true ↔ s.latch.result = .event) ∧
  (s.latch.result ≠ .event → s.latch.datum = 0 ∧ s.latch.stamp = 0) ∧
  (s.latch.result = .none ∨ s.latch.result = .noContext → s.latch.source = 0 ∧ s.latch.missed = 0) ∧
  s.latch.missed ≤ 255

/-- The configuration fields of a source that CLEAR, takes and ticks keep (R23). -/
def Source.config (q : Source) : Bool × Bool × Bool × Policy × BitVec 3 × Nat :=
  (q.admitOn, q.bid, q.depthBoost, q.policy, q.cls, q.quota)

/-- Everything of a state that no tick and no admission ever writes: the pins and the Timebase's settings, the Post Port, LOW_MARK, AGE_PERIOD,
FLOOR, the latch, the budgets, the enables, the selectors, CMD_STATUS, the read latches, the holding bytes and the queue of commands. -/
def State.settings (s : State) : (Bool × Word × Bool) × (Byte × Nat × Word × Byte) × EventLatch × Vector ClassBudget 8 × AlertBits ×
    (Byte × Byte × Byte × Byte) × Answer × Vector Byte 11 × Vector Byte 5 × List Instr :=
  ((s.resetLow, s.divider, s.tbRun), (s.postSrc, s.lowMark, s.agePeriod, s.floor), s.latch, s.budgets, s.enables,
   (s.srcSel, s.ctxSel, s.timerSel, s.budgetSel), s.cmdStatus, s.readLatch, s.holding, s.pending)

end Sys2Proof.Machine
end

