-- ==== Sys2Proof/Certificates/Slice0/Obligations.lean ====
section
/-! DEFINITION. The statements for the provers, one definition each; OBLIGATIONS.json gives each its tier, its basis and its cites. -/

open Sys2Proof Sys2Proof.Machine

/-- For every state whose queue is c followed by rest, step answers what exec answers for c on the same state with the queue rest. The queue is the model's own (log 1); that commands are taken whole and one at a time is the manual's. [derived: spec/08_host_bus_and_register_window.md, section 1.1] -/
def Obligations.StepTakesTheFrontCommand : Prop :=
  ∀ (s : State) (c : Instr) (rest : List Instr), s.pending = c :: rest → step s = exec c { s with pending := rest }

/-- With an empty queue: while TB_RUN is 0 or RESET_N is low, a step changes nothing but to stop driving D7 to D0. Otherwise the CLK count rises by 1 while that stays below the tick period of the interval in progress, and nothing else changes; when it would reach the tick period, the step is a tick: for some sample w of the lines it answers what TICK w answers on the same state with one more free value drawn, a next state whose timestamp is 1 higher and whose new interval begins from 0 under the divider then stored. That an idle step is one CLK period is the model's choice (log 2). [derived: spec/04_timebase_interval_sources_and_posted_events.md, section 1.1, spec/04_timebase_interval_sources_and_posted_events.md, section 1.2] -/
def Obligations.IdleStepIsOneClkPeriod : Prop :=
  ∀ s : State, s.pending = [] →
    (s.tbRun = false ∨ s.resetLow = true → step s = .next { s with dataOut := none }) ∧
    (s.tbRun = true → s.resetLow = false → s.clkCount + 1 < (if s.intervalDivider = 0 then 65536 else s.intervalDivider.toNat) →
      step s = .next { s with dataOut := none, clkCount := s.clkCount + 1 }) ∧
    (s.tbRun = true → s.resetLow = false → ¬ s.clkCount + 1 < (if s.intervalDivider = 0 then 65536 else s.intervalDivider.toNat) →
      (∃ w : Word, step s = exec (.tick w) { s with draws := s.draws + 1 }) ∧
      ∃ t, step s = .next t ∧ t.timestamp = s.timestamp + 1 ∧ t.clkCount = 0 ∧ t.intervalDivider = s.divider ∧ t.dataOut = none)

/-- For every state with an empty queue in which ticks come, with P the tick period of the interval in progress (65536 for a divider of 0) and a CLK count below P: every run of k steps, 0 < k < P less the CLK count, changes the CLK count alone, raised by k (D7 to D0 not driven); the run of P less the CLK count steps answers, for some sample w of the lines, what TICK w answers on the state with one more free value drawn: a next state with the timestamp 1 higher, every line seeded and its raw level from w, the CLK count 0, the stored divider in force, and the queue empty. It holds of the state right after reset, whose first tick so comes at the 1000th CLK period. It rests on the model's choice that an idle step is one CLK period (log 2). [derived: spec/04_timebase_interval_sources_and_posted_events.md, section 1.1, spec/04_timebase_interval_sources_and_posted_events.md, section 1.2, spec/04_timebase_interval_sources_and_posted_events.md, section 1.5] -/
def Obligations.IdleStepsToTheEndOfAnIntervalMakeOneTick : Prop :=
  ∀ s : State, s.pending = [] → s.tbRun = true → s.resetLow = false →
    let period : Nat := if s.intervalDivider = 0 then 65536 else s.intervalDivider.toNat
    s.clkCount < period →
    (∀ k : Nat, 0 < k → k < period - s.clkCount →
      Sys2Proof.core.run k s = .next { s with dataOut := none, clkCount := s.clkCount + k }) ∧
    ∃ (w : Word) (t : State), Sys2Proof.core.run (period - s.clkCount) s = .next t ∧
      exec (.tick w) { s with draws := s.draws + 1 } = .next t ∧ t.timestamp = s.timestamp + 1 ∧
      (∀ n : Fin 16, t.lines[n].seeded = true ∧ t.lines[n].raw = w.getLsbD n.val) ∧
      t.clkCount = 0 ∧ t.intervalDivider = s.divider ∧ t.pending = []

/-- With RESET_N low, every command but RESET_N_LOW and RESET_N_RELEASE leaves the state as it was, with D7 to D0 not driven (log 9); so does the cycle that any levels on the bus pins make, a read of any register among them (busCycle); REQ_N and ALERT_N are released. [derived: spec/08_host_bus_and_register_window.md, section 1.1, spec/08_host_bus_and_register_window.md, section 4] -/
def Obligations.LowResetIgnoresEveryOtherCommand : Prop :=
  ∀ (c : Instr) (p : BusPins) (s : State), s.resetLow = true →
    (c ≠ .resetNLow → c ≠ .resetNRelease → exec c s = .next { s with dataOut := none }) ∧
    s.busCycle p.cycle = .next { s with dataOut := none } ∧
    s.reqAsserted = false ∧ s.alertAsserted = false

/-- RESET_N_LOW answers the reset values with RESET_N low, REQ_N and ALERT_N released and D7 to D0 not driven. RESET_N_RELEASE from RESET_N low answers State.reset with the model's queue and draw counter kept, in which REQ_N and ALERT_N stay released. With RESET_N not low a release changes nothing. That the blocks without a rule for it hold reset values already while RESET_N is low, and the last clause, are the model's choices (log 6). [derived: spec/08_host_bus_and_register_window.md, section 4] -/
def Obligations.ResetPinEdges : Prop :=
  ∀ s : State,
    (∃ t, exec .resetNLow s = .next t ∧ t = { State.reset with resetLow := true, draws := s.draws, pending := s.pending } ∧
      t.reqAsserted = false ∧ t.alertAsserted = false) ∧
    (s.resetLow = true → ∃ t, exec .resetNRelease s = .next t ∧
      t = { State.reset with draws := s.draws, pending := s.pending } ∧ t.reqAsserted = false ∧ t.alertAsserted = false) ∧
    (s.resetLow = false → exec .resetNRelease s = .next { s with dataOut := none })

/-- In State.reset every register that is neither GRANT or TAKE, nor a strobe, nor a byte of a 16-bit view reads the byte of the map's Reset column; the strobes read 00h (08, 1.1 and 3.2); each 16-bit view has the value of that column, 03E8h for TB_DIV and 0000h for the others, and the low byte of each reads that value's low byte, E8h for TB_DIV; every high byte reads 00h, as no low byte has been read since the reset (08, 2.1). [derived: spec/08_host_bus_and_register_window.md, section 1.1, spec/08_host_bus_and_register_window.md, section 2.1, spec/08_host_bus_and_register_window.md, section 3.2, spec/08_host_bus_and_register_window.md, section 4, spec/08_host_bus_and_register_window.md, section 5] -/
def Obligations.ResetBytesAreTheMapsResetColumn : Prop :=
  (∀ r ∈ ([.winner, .latchHdr, .latchSrc, .latchDatum, .latchMissed, .stackDepth, .cmdStatus, .floor, .alertFlags, .alertEnable,
        .alertSource, .timerSel, .timerCtrl, .budgetSel, .budgetAction, .ctxSel, .ctxSrc, .ctxClass, .ctxBid, .ctxTaken, .ctxBstate,
        .srcSel, .srcCfg, .srcClass, .srcState, .srcMissed, .srcBid,
        .endService, .unwind, .flush, .clear, .post, .timerArm, .timerStop] : List Reg), State.reset.windowRead r = 0x00) ∧
    State.reset.windowRead .postSrc = 0x10 ∧ State.reset.windowRead .tbCtrl = 0x01 ∧ State.reset.windowRead .freeCount = 0x40 ∧
    State.reset.windowRead .lowMark = 0x08 ∧ State.reset.windowRead .srcQuota = 0x04 ∧ State.reset.windowRead .srcLine = 0x30 ∧
    State.reset.viewWord .tbDiv = 0x03E8 ∧ State.reset.windowRead .tbDivL = 0xE8 ∧
    (∀ v ∈ ([.latchStamp, .agePeriod, .stamp, .lineRaw, .lineQual, .timerPeriod, .timerCount, .budget, .ctxStamp, .ctxBudget] : List View),
      State.reset.viewWord v = 0x0000 ∧ State.reset.windowRead v.low = 0x00) ∧
    (∀ v : View, State.reset.windowRead v.high = 0x00)

/-- For every address and byte: CS_N and RD_N low with WR_N and ACK_N high make a read; CS_N and WR_N low with RD_N and ACK_N high make a write; RD_N and ACK_N low with WR_N high make an acknowledge cycle whatever CS_N; RD_N high with WR_N and ACK_N low, RD_N and WR_N low together, CS_N high without an acknowledge, and RD_N and WR_N high together make no cycle, and no cycle is a command. With RESET_N not low, a read of a register other than GRANT, TAKE and the low bytes of 16-bit views drives that register's byte on D7 to D0 and changes nothing else, a write and an acknowledge cycle do what their command does, and no cycle drives nothing and changes nothing. [derived: spec/08_host_bus_and_register_window.md, section 1.1] -/
def Obligations.BusPinsMakeTheCycleOfTheTable : Prop :=
  ∀ (a : BitVec 6) (d : Byte) (x y : Bool) (s : State),
    BusPins.cycle ⟨false, false, true, true, a, d⟩ = .read (Reg.ofAddr a) ∧
    BusPins.cycle ⟨false, true, false, true, a, d⟩ = .write (Reg.ofAddr a) d ∧
    BusPins.cycle ⟨x, false, true, false, a, d⟩ = .acknowledge x a ∧
    BusPins.cycle ⟨x, true, false, false, a, d⟩ = .noCycle ∧
    BusPins.cycle ⟨x, false, false, y, a, d⟩ = .noCycle ∧
    BusPins.cycle ⟨true, false, true, true, a, d⟩ = .noCycle ∧
    BusPins.cycle ⟨true, true, false, true, a, d⟩ = .noCycle ∧
    BusPins.cycle ⟨x, true, true, y, a, d⟩ = .noCycle ∧
    Cycle.noCycle.command = none ∧
    (s.resetLow = false →
      (Reg.ofAddr a ∉ ([.grant, .take] : List Reg) → (∀ v : View, Reg.ofAddr a ≠ v.low) →
        s.busCycle (.read (Reg.ofAddr a)) = .next { s with dataOut := some (s.windowRead (Reg.ofAddr a)) }) ∧
      s.busCycle (.write (Reg.ofAddr a) d) = exec ((Reg.ofAddr a).writeCommand d) s ∧
      s.busCycle (.acknowledge x a) = exec (.acknowledgeCycle x a) s ∧
      s.busCycle .noCycle = .next { s with dataOut := none })

/-- RD_N and ACK_N low with WR_N high make an acknowledge cycle and its command whatever CS_N, the address (the address of TAKE among them) and D7 to D0 hold, and that command answers what GRANT answers, the byte on D7 to D0 among it: 80h plus the winner's number with a context pushed for it when the grant condition holds, else 00h with nothing changed but D7 to D0. ACK_N low with WR_N low, and ACK_N low with RD_N and WR_N high, make no cycle and no command. [stated: R143] -/
def Obligations.AcknowledgeCycleIsAGrantRead : Prop :=
  (∀ (cs : Bool) (a : BitVec 6) (d : Byte),
      (BusPins.cycle ⟨cs, false, true, false, a, d⟩).command = some (.acknowledgeCycle cs a)) ∧
    (∀ (cs : Bool) (a : BitVec 6) (s : State), exec (.acknowledgeCycle cs a) s = exec .grant s) ∧
    (∀ (cs : Bool) (a : BitVec 6) (s : State), s.resetLow = false → s.grantCondition = false →
      exec (.acknowledgeCycle cs a) s = .next { s with dataOut := some 0x00 }) ∧
    (∀ (cs : Bool) (a : BitVec 6) (s : State), s.resetLow = false → s.grantCondition = true →
      ∃ (w : Fin 24) (t : State) (c : Context) (rest : List Context), s.winner = some w ∧ exec (.acknowledgeCycle cs a) s = .next t ∧
        t.stack = c :: rest ∧ c.source = w ∧ rest.length = s.stack.length ∧ t.dataOut = some (BitVec.ofNat 8 (0x80 + w.val))) ∧
    (∀ (cs rd : Bool) (a : BitVec 6) (d : Byte),
      (BusPins.cycle ⟨cs, rd, false, false, a, d⟩).command = none ∧ (BusPins.cycle ⟨cs, true, true, false, a, d⟩).command = none)

/-- For a line or posted source with ADMIT on, depth at least quota and policy KEEP_OLDEST: admission raises the missed count by 1 (saturating at 255), sets MISSED and changes nothing else; queue, pool and POOL_EMPTY stay, whatever the free count; a POST is answered DROPPED. [stated: R12] -/
def Obligations.FullKeepOldestQueueDiscardsTheArrival : Prop :=
  ∀ (s : State) (r : Record), isInterval r.source = false → (s.src r.source).admitOn = true → 
    (s.src r.source).quota ≤ (s.src r.source).queue.length → (s.src r.source).policy = .keepOldest →
    s.admitArrival r = (.dropped,
      { s.setSrc r.source { s.src r.source with missed := min 255 ((s.src r.source).missed + 1) } with
          flags := { s.flags with missed := true } })

/-- For a line or posted source with ADMIT on, a queue e1 followed by rest whose depth is at least quota and policy KEEP_NEWEST: the queue becomes rest with the arrival's own record at the tail, of the same depth (above the quota too), the missed count rises by 1 (saturating), MISSED is set, the free count, POOL_EMPTY, POOL_LOW and everything else stay; a POST is answered REPLACED. [stated: R13] -/
def Obligations.FullKeepNewestQueueDisplacesItsHead : Prop :=
  ∀ (s : State) (r e1 : Record) (rest : List Record), isInterval r.source = false → (s.src r.source).admitOn = true → 
    (s.src r.source).queue = e1 :: rest → (s.src r.source).quota ≤ (e1 :: rest).length → (s.src r.source).policy = .keepNewest →
    s.admitArrival r = (.replaced,
      { s.setSrc r.source { s.src r.source with queue := rest ++ [r], missed := min 255 ((s.src r.source).missed + 1) } with
          flags := { s.flags with missed := true } }) ∧
    (rest ++ [r]).length = (e1 :: rest).length

/-- For a line or posted source with ADMIT on, depth below quota and free count at least 1: the record is appended at the tail, the free count falls by 1, POOL_LOW is set when the free count was LOW_MARK and else stays, the missed count and everything else stay; a POST is answered OK. [stated: R14] -/
def Obligations.QueueWithRoomAppendsTheArrival : Prop :=
  ∀ (s : State) (r : Record), isInterval r.source = false → (s.src r.source).admitOn = true → 
    (s.src r.source).queue.length < (s.src r.source).quota → 1 ≤ s.freeCount →
    s.admitArrival r = (.ok,
      { s.setSrc r.source { s.src r.source with queue := (s.src r.source).queue ++ [r] } with
          freeCount := s.freeCount - 1
          flags := { s.flags with poolLow := s.flags.poolLow || decide (s.freeCount = s.lowMark) } })

/-- For a line or posted source with ADMIT on, depth below quota and free count 0: POOL_EMPTY and MISSED are set and the missed count rises by 1 (saturating). Under KEEP_OLDEST at any depth, and under KEEP_NEWEST at depth 0, the queue stays and a POST is answered DROPPED. Under KEEP_NEWEST at depth 1 or more the head is displaced by the arrival's record and a POST is answered REPLACED. Nothing else changes. [stated: R15] -/
def Obligations.QueueWithRoomMeetsTheEmptyPool : Prop :=
  ∀ (s : State) (r : Record), isInterval r.source = false → (s.src r.source).admitOn = true → 
    (s.src r.source).queue.length < (s.src r.source).quota → s.freeCount = 0 →
    ((s.src r.source).policy = .keepOldest ∨ ((s.src r.source).policy = .keepNewest ∧ (s.src r.source).queue = []) →
      s.admitArrival r = (.dropped,
        { s.setSrc r.source { s.src r.source with missed := min 255 ((s.src r.source).missed + 1) } with
            flags := { s.flags with poolEmpty := true, missed := true } })) ∧
    (∀ (e1 : Record) (rest : List Record), (s.src r.source).policy = .keepNewest → (s.src r.source).queue = e1 :: rest →
      s.admitArrival r = (.replaced,
        { s.setSrc r.source { s.src r.source with queue := rest ++ [r], missed := min 255 ((s.src r.source).missed + 1) } with
            flags := { s.flags with poolEmpty := true, missed := true } }))

/-- For an interval source with ADMIT on, whatever its quota: with one queued record of datum below 255 its datum rises by 1 and nothing else changes; with datum 255 the missed count rises by 1 and MISSED is set; with an empty queue and a free slot the record is appended, the free count falls by 1 and POOL_LOW is set on the crossing; with an empty queue and no free slot POOL_EMPTY and MISSED are set and the missed count rises. [derived: spec/01_event_records_the_slot_pool_and_admission.md, section 4.2] -/
def Obligations.IntervalExpiryCoalesces : Prop :=
  ∀ (s : State) (r : Record), isInterval r.source = true → (s.src r.source).admitOn = true → 
    (∀ h : Record, (s.src r.source).queue = [h] → h.datum ≠ 255 →
      (s.admitArrival r).2 = s.setSrc r.source { s.src r.source with queue := [{ h with datum := h.datum + 1 }] }) ∧
    (∀ h : Record, (s.src r.source).queue = [h] → h.datum = 255 →
      (s.admitArrival r).2 = { s.setSrc r.source { s.src r.source with missed := min 255 ((s.src r.source).missed + 1) } with
                          flags := { s.flags with missed := true } }) ∧
    ((s.src r.source).queue = [] → 1 ≤ s.freeCount →
      (s.admitArrival r).2 = { s.setSrc r.source { s.src r.source with queue := [r] } with
                          freeCount := s.freeCount - 1
                          flags := { s.flags with poolLow := s.flags.poolLow || decide (s.freeCount = s.lowMark) } }) ∧
    ((s.src r.source).queue = [] → s.freeCount = 0 →
      (s.admitArrival r).2 = { s.setSrc r.source { s.src r.source with missed := min 255 ((s.src r.source).missed + 1) } with
                          flags := { s.flags with poolEmpty := true, missed := true } })

/-- For any two records of different sources and any state with at least two free slots, admitting one and then the other gives the same state in either order, flags and free count included. (With one free slot the order matters, and is a free value: log 5.) [derived: spec/01_event_records_the_slot_pool_and_admission.md, section 2.1, spec/04_timebase_interval_sources_and_posted_events.md, section 1.4] -/
def Obligations.AdmissionsWithRoomCommute : Prop :=
  ∀ (s : State) (r q : Record), r.source ≠ q.source → 2 ≤ s.freeCount →
    ((s.admitArrival r).2.admitArrival q).2 = ((s.admitArrival q).2.admitArrival r).2

/-- With POST_SRC at 16 to 19, POST admits the record of that source, kind POST, the current timestamp and the written byte, and CMD_STATUS takes the answer of the admission: DISABLED with ADMIT off and the queue as it was; OK with the record at the tail when the depth is below quota and a slot is free. With POST_SRC at 0 to 15 or 20 to 255 nothing changes but CMD_STATUS, which takes BAD_SOURCE. [derived: spec/04_timebase_interval_sources_and_posted_events.md, section 3, spec/08_host_bus_and_register_window.md, section 3.2] -/
def Obligations.PostMakesOneArrivalAndLeavesItsAnswer : Prop :=
  ∀ (s : State) (b : Byte), s.resetLow = false →
    (∀ i : Fin 24, 16 ≤ i.val → i.val < 20 → s.postSrc.toNat = i.val →
      let r : Record := { source := i, kind := .post, stamp := s.timestamp, datum := b }
      let s0 : State := { s with dataOut := none }
      exec (.post b) s = .next { (s0.admitArrival r).2 with cmdStatus := (s0.admitArrival r).1 } ∧
      ((s.src i).admitOn = false → exec (.post b) s = .next { s0 with cmdStatus := .disabled }) ∧
      ((s.src i).admitOn = true → (s.src i).queue.length < (s.src i).quota → 1 ≤ s.freeCount →
        ∃ t, exec (.post b) s = .next t ∧ (t.src i).queue = (s.src i).queue ++ [r] ∧ t.freeCount = s.freeCount - 1 ∧ t.cmdStatus = .ok)) ∧
    (s.postSrc.toNat < 16 ∨ 20 ≤ s.postSrc.toNat →
      exec (.post b) s = .next { s with dataOut := none, cmdStatus := .badSource })

/-- In every state whose source records are in range: a bid is 32 x class plus the depth bonus (depth less one with DEPTH_BOOST on and a non-empty queue, else 0) plus the credits; it lies between 32 x class and 32 x class + 31; a source of a higher class has the higher bid; an interval source has no depth bonus. [derived: spec/05_arbitration.md, section 1.1] -/
def Obligations.BidsLieInTheRangeOfTheirClass : Prop :=
  ∀ s : State, s.SourcesInRange → ∀ i j : Fin 24,
    (s.bidOf i = 32 * (s.src i).cls.toNat
        + (if (s.src i).depthBoost = true ∧ (s.src i).queue ≠ [] then (s.src i).queue.length - 1 else 0) + (s.src i).credits) ∧
    32 * (s.src i).cls.toNat ≤ s.bidOf i ∧ s.bidOf i ≤ 32 * (s.src i).cls.toNat + 31 ∧ s.bidOf i ≤ 255 ∧
    ((s.src j).cls.toNat < (s.src i).cls.toNat → s.bidOf j < s.bidOf i) ∧
    (isInterval i = true → s.bidOf i = 32 * (s.src i).cls.toNat + (s.src i).credits)

/-- For every state: source w is the winner exactly when it is eligible and every other eligible source bids lower, or bids the same with a higher number; there is no winner exactly when no source is eligible; where the records are in range no eligible source is of a higher class than the winner; and a grant that pushes, pushes the winner. [stated: R85] -/
def Obligations.WinnerIsTheHighestBidOfLowestNumber : Prop :=
  ∀ s : State,
    (∀ w : Fin 24, s.winner = some w ↔
      s.eligible w = true ∧ ∀ i : Fin 24, s.eligible i = true → i ≠ w →
        s.bidOf i < s.bidOf w ∨ (s.bidOf i = s.bidOf w ∧ w.val < i.val)) ∧
    (s.winner = none ↔ ∀ i : Fin 24, s.eligible i = false) ∧
    (s.SourcesInRange → ∀ w i : Fin 24, s.winner = some w → s.eligible i = true → (s.src i).cls.toNat ≤ (s.src w).cls.toNat) ∧
    (∀ (w : Fin 24) (t : State), s.winner = some w → exec .grant s = .next t → t.stack.length ≠ s.stack.length →
      t.stack.head?.map Context.source = some w)

/-- For every state and winner w: with the stack empty the condition holds exactly when w's bid is at least FLOOR; with 1 to 5 contexts exactly when the class in w's record is above the held class of the top context; with 6 it does not hold; without a winner it does not hold. Where the records are in range it holds exactly when some eligible source passes the test of its row. REQ_N is asserted exactly when the condition holds and RESET_N is not low. [derived: spec/05_arbitration.md, section 5, spec/05_arbitration.md, section 6] -/
def Obligations.GrantConditionByStackDepth : Prop :=
  ∀ s : State,
    (s.winner = none → s.grantCondition = false) ∧
    (∀ w : Fin 24, s.winner = some w →
      (s.stack = [] → (s.grantCondition = true ↔ s.floor.toNat ≤ s.bidOf w)) ∧
      (∀ (c : Context) (rest : List Context), s.stack = c :: rest → s.stack.length ≤ 5 →
        (s.grantCondition = true ↔ c.heldClass.toNat < (s.src w).cls.toNat)) ∧
      (6 ≤ s.stack.length → s.grantCondition = false)) ∧
    (s.SourcesInRange → (s.grantCondition = true ↔ ∃ i : Fin 24, s.eligible i = true ∧
      ((s.stack = [] ∧ s.floor.toNat ≤ s.bidOf i) ∨
       (∃ (c : Context) (rest : List Context), s.stack = c :: rest ∧ s.stack.length ≤ 5 ∧ c.heldClass.toNat < (s.src i).cls.toNat)))) ∧
    (s.reqAsserted = true ↔ s.resetLow = false ∧ s.grantCondition = true)

/-- With RESET_N not low, winner w and the grant condition holding, GRANT and an acknowledge cycle answer 80h plus w on D7 to D0 and the state with a new context at level 0 (source w, w's bid, the class in w's record, the timestamp, taken 0, the class's BUDGET with UNLIMITED when it is 0 and else RUNNING), w's age credits 0, and the former top RUNNING become PAUSED with its count and all its other fields, EXPIRED and UNLIMITED unchanged; contexts below and everything else stay. Afterwards w is ACTIVE and the former top's source, which is not w, is PREEMPTED. [derived: spec/06_service_contexts_and_the_nesting_stack.md, section 3.1, spec/06_service_contexts_and_the_nesting_stack.md, section 3.2] -/
def Obligations.GrantPushesAContextForTheWinner : Prop :=
  ∀ (s : State) (w : Fin 24) (cs : Bool) (a : BitVec 6), s.resetLow = false → s.winner = some w → s.grantCondition = true →
    let bud : Word := (s.budgets[((s.src w).cls).toNat]'((s.src w).cls).isLt).budget
    let fresh : Context := { source := w, grantedBid := s.bidOf w, heldClass := (s.src w).cls, grantStamp := s.timestamp, taken := 0,
                             remaining := bud, bstate := if bud = 0 then .unlimited else .running }
    let below : List Context := match s.stack with
      | [] => []
      | c :: rest => { c with bstate := if c.bstate = .running then .paused else c.bstate } :: rest
    ∃ t, exec .grant s = .next t ∧ exec (.acknowledgeCycle cs a) s = .next t ∧
      t = { s.setSrc w { s.src w with credits := 0 } with stack := fresh :: below, dataOut := some (BitVec.ofNat 8 (0x80 + w.val)) } ∧
      t.sourceState w = .active ∧
      (∀ (c : Context) (rest : List Context), s.stack = c :: rest → t.sourceState c.source = .preempted ∧ c.source ≠ w)

/-- In every state whose records are in range, when GRANT answers a state with one more context, the grant condition does not hold in that state and REQ_N is released. [derived: spec/05_arbitration.md, section 5, spec/05_arbitration.md, section 6] -/
def Obligations.AfterAPushTheGrantConditionFails : Prop :=
  ∀ s t : State, s.SourcesInRange → exec .grant s = .next t → t.stack.length = s.stack.length + 1 →
    t.grantCondition = false ∧ t.reqAsserted = false

/-- With RESET_N not low and the grant condition not holding, GRANT and an acknowledge cycle answer 00h on D7 to D0 and leave every other field as it was, REQ_N released; and the condition fails exactly because no source is eligible, or the stack is empty and the winner's bid is below FLOOR, or 1 to 5 contexts hold and the winner's class is not above the top's held class, or 6 contexts or more hold. [stated: R110] -/
def Obligations.GrantThatFindsNoGrantChangesNothing : Prop :=
  ∀ (s : State) (cs : Bool) (a : BitVec 6), s.resetLow = false → s.grantCondition = false →
    exec .grant s = .next { s with dataOut := some 0x00 } ∧
    exec (.acknowledgeCycle cs a) s = .next { s with dataOut := some 0x00 } ∧ s.reqAsserted = false ∧
    ((∀ i : Fin 24, s.eligible i = false) ∨
     (∃ w : Fin 24, s.winner = some w ∧ s.stack = [] ∧ s.bidOf w < s.floor.toNat) ∨
     (∃ (w : Fin 24) (c : Context) (rest : List Context), s.winner = some w ∧ s.stack = c :: rest ∧
        (s.src w).cls.toNat ≤ c.heldClass.toNat) ∨
     6 ≤ s.stack.length)

/-- With RESET_N not low and the stack empty, TAKE answers C0h and the state with the latch at result NO_CONTEXT, kind none, source 0, datum 0, stamp 0 and missed 0; every queue, missed count, age credit, the free count and everything else stay. [stated: R114] -/
def Obligations.TakeOnAnEmptyStackAnswersNoContext : Prop :=
  ∀ s : State, s.resetLow = false → s.stack = [] →
    exec .take s = .next { s with
      dataOut := some 0xC0
      latch := { result := .noContext, kind := none, source := 0, datum := 0, stamp := 0, missed := 0 } }

/-- With RESET_N not low, a top context c and the queue of its source S being h followed by t: TAKE answers 41h to 45h by h's kind; the latch takes EVENT, h's kind, S, h's datum and stamp and S's missed count; S's queue becomes t, its missed count 0, its credits 0 when t is empty; the free count rises by 1; c's taken count rises by 1 and stays at 255; everything else stays, the flags, the budget and the other contexts among it. [derived: spec/06_service_contexts_and_the_nesting_stack.md, section 4.2, spec/08_host_bus_and_register_window.md, section 6] -/
def Obligations.TakeDeliversTheHeadRecord : Prop :=
  ∀ (s : State) (c : Context) (rest : List Context) (h : Record) (t : List Record), s.resetLow = false →
    s.stack = c :: rest → (s.src c.source).queue = h :: t →
    exec .take s = .next { s.setSrc c.source { s.src c.source with
                              queue := t, missed := 0, credits := if t = [] then 0 else (s.src c.source).credits } with
      dataOut := some (match h.kind with | .rise => 0x41 | .fall => 0x42 | .level => 0x43 | .post => 0x44 | .interval => 0x45)
      latch := { result := .event, kind := some h.kind, source := c.source, datum := h.datum, stamp := h.stamp,
                 missed := (s.src c.source).missed }
      freeCount := s.freeCount + 1
      stack := { c with taken := min 255 (c.taken + 1) } :: rest }

/-- With RESET_N not low, a top context and the queue of its source S empty: TAKE answers 80h; the latch takes EMPTY, kind none, S, datum 0, stamp 0 and S's missed count; S's missed count becomes 0; no slot is released, the taken count and everything else stay, S stays ACTIVE, and a level source is not re-asserted. [derived: spec/06_service_contexts_and_the_nesting_stack.md, section 4.2] -/
def Obligations.TakeOnAnEmptyQueueAnswersEmpty : Prop :=
  ∀ (s : State) (c : Context) (rest : List Context), s.resetLow = false → s.stack = c :: rest → (s.src c.source).queue = [] →
    ∃ t, exec .take s = .next t ∧
      t = { s.setSrc c.source { s.src c.source with missed := 0 } with
        dataOut := some 0x80
        latch := { result := .empty, kind := none, source := c.source, datum := 0, stamp := 0, missed := (s.src c.source).missed } } ∧
      t.sourceState c.source = .active

/-- With RESET_N not low: on an empty stack whatever the operand the answer is NO_CONTEXT (for a source whose own pop emptied the stack, and for one granted again and now below the top, other words of the manual say NOT_IN_SERVICE, and following R119's table is the model's choice: log 20); else for operand 24 to 255 BAD_SOURCE, for a source below the top and not the top's OUT_OF_ORDER, for a source of no context NOT_IN_SERVICE, and in each of these cases nothing changes but CMD_STATUS. When the operand is the top's source P and no level re-assertion is due (P is no line source, or its line's mode is no LEVEL mode, or its line is not active, or its queue is not empty, or P is the source of another context): the answer is OK, the context leaves the stack, the context brought to level 0 goes from PAUSED to RUNNING with its count and else stays, and everything else stays, P's queue and missed count among it. [derived: spec/06_service_contexts_and_the_nesting_stack.md, section 5.1] -/
def Obligations.EndServicePopsTheTopOrRefuses : Prop :=
  ∀ (s : State) (b : Byte), s.resetLow = false →
    (s.stack = [] → exec (.endService b) s = .next { s with dataOut := none, cmdStatus := .noContext }) ∧
    (∀ (c : Context) (rest : List Context), s.stack = c :: rest →
      (24 ≤ b.toNat → exec (.endService b) s = .next { s with dataOut := none, cmdStatus := .badSource }) ∧
      (b.toNat < 24 → b.toNat ≠ c.source.val → (∃ d ∈ rest, d.source.val = b.toNat) →
        exec (.endService b) s = .next { s with dataOut := none, cmdStatus := .outOfOrder }) ∧
      (b.toNat < 24 → b.toNat ≠ c.source.val → (∀ d ∈ rest, d.source.val ≠ b.toNat) →
        exec (.endService b) s = .next { s with dataOut := none, cmdStatus := .notInService }) ∧
      (b.toNat = c.source.val →
        (∀ n : Fin 16, n.val = c.source.val → (s.lines[n].mode ≠ .levelHigh ∧ s.lines[n].mode ≠ .levelLow) ∨ s.lines[n].seeded = false ∨
          (s.lines[n].mode = .levelHigh ∧ s.lines[n].qual = false) ∨ (s.lines[n].mode = .levelLow ∧ s.lines[n].qual = true) ∨
          (s.src c.source).queue ≠ [] ∨ ∃ d ∈ rest, d.source = c.source) →
        exec (.endService b) s = .next { s with
          dataOut := none, cmdStatus := .ok
          stack := match rest with
            | [] => []
            | d :: below => { d with bstate := if d.bstate = .paused then .running else d.bstate } :: below }))

/-- With RESET_N not low and END_SERVICE for the top's source, line n in LEVEL_HIGH or LEVEL_LOW, seeded, at its active level, with an empty queue and no other context: when ADMIT is on, quota at least 1 and a slot free, the queue becomes one LEVEL record with the current timestamp and the octet of line n as it stands, the source is PENDING, the free count falls by 1, and POOL_LOW is set when the free count was LOW_MARK, the flags else as they were; with ADMIT off nothing is appended and no loss counted; with ADMIT on, quota at least 1 and no slot free the missed count rises and POOL_EMPTY and MISSED are set. In each case the answer is OK and the stack is the rest with its top resumed. [derived: spec/03_line_inputs.md, section 6.2, spec/03_line_inputs.md, section 6.3, spec/06_service_contexts_and_the_nesting_stack.md, section 5.1] -/
def Obligations.PopReassertsAnActiveLevelSource : Prop :=
  ∀ (s : State) (b : Byte) (c : Context) (rest : List Context) (n : Fin 16), s.resetLow = false → s.stack = c :: rest →
    b.toNat = c.source.val → n.val = c.source.val → s.lines[n].seeded = true →
    ((s.lines[n].mode = .levelHigh ∧ s.lines[n].qual = true) ∨ (s.lines[n].mode = .levelLow ∧ s.lines[n].qual = false)) →
    (s.src c.source).queue = [] → (∀ d ∈ rest, d.source ≠ c.source) →
    ∃ t, exec (.endService b) s = .next t ∧ t.cmdStatus = .ok ∧
      t.stack = (match rest with
        | [] => []
        | d :: below => { d with bstate := if d.bstate = .paused then .running else d.bstate } :: below) ∧
      t.lines = s.lines ∧ t.latch = s.latch ∧ (∀ i : Fin 24, i ≠ c.source → t.src i = s.src i) ∧
      ((s.src c.source).admitOn = true → 1 ≤ (s.src c.source).quota → 1 ≤ s.freeCount →
        (∃ r : Record, (t.src c.source).queue = [r] ∧ r.source = c.source ∧ r.kind = .level ∧ r.stamp = s.timestamp ∧
          ∀ k : Fin 8, r.datum.getLsbD k.val = (s.lines[8 * (n.val / 8) + k.val]'(by omega)).qual) ∧
        t.sourceState c.source = .pending ∧ t.freeCount = s.freeCount - 1 ∧ (t.src c.source).missed = (s.src c.source).missed ∧
        t.flags = { s.flags with poolLow := s.flags.poolLow || decide (s.freeCount = s.lowMark) }) ∧
      ((s.src c.source).admitOn = false → t.sources = s.sources ∧ t.freeCount = s.freeCount ∧ t.flags = s.flags) ∧
      ((s.src c.source).admitOn = true → 1 ≤ (s.src c.source).quota → s.freeCount = 0 →
        (t.src c.source).queue = [] ∧ (t.src c.source).missed = min 255 ((s.src c.source).missed + 1) ∧
        t.flags = { s.flags with poolEmpty := true, missed := true } ∧ t.freeCount = 0)

/-- With RESET_N not low: on an empty stack UNWIND changes nothing but CMD_STATUS, which takes NO_CONTEXT. Else, where the contexts are of different sources, it is answered OK and leaves the stack empty; the latch, lines, timers and the other settings stay; every source off the stack, and every popped source that is no line source, or has ADMIT off, or whose line is not active in a LEVEL mode, or whose queue is not empty, keeps its record. Where the popped sources' quotas are at least 1, let due be the contexts, top first, whose source has ADMIT on, an empty queue and an active line in a LEVEL mode: with f free slots before, each of the first f of them leaves its source with one LEVEL record of the current timestamp and its line's octet as it stands, and every later one meets the empty pool and leaves its source as it was but for the missed count, raised by 1 (saturating); the free count falls by the number of records made; POOL_LOW is set when the free count crossed LOW_MARK, POOL_EMPTY and MISSED when a later one was lost, and the flags else stay. [derived: spec/06_service_contexts_and_the_nesting_stack.md, section 5.2, spec/03_line_inputs.md, section 6.2, spec/03_line_inputs.md, section 6.3, spec/01_event_records_the_slot_pool_and_admission.md, section 2.2] -/
def Obligations.UnwindEndsEveryService : Prop :=
  ∀ (s : State) (b : Byte), s.resetLow = false →
    (s.stack = [] → exec (.unwind b) s = .next { s with dataOut := none, cmdStatus := .noContext }) ∧
    (s.stack ≠ [] → (s.stack.map Context.source).Nodup →
      ∃ t, exec (.unwind b) s = .next t ∧ t.stack = [] ∧ t.cmdStatus = .ok ∧ t.dataOut = none ∧
        { t with cmdStatus := s.cmdStatus }.settings = s.settings ∧ t.lines = s.lines ∧ t.timers = s.timers ∧ t.timestamp = s.timestamp ∧
        t.agingCount = s.agingCount ∧ t.alertSource = s.alertSource ∧
        (∀ i : Fin 24, s.onStack i = false ∨ (s.src i).admitOn = false ∨ (s.src i).queue ≠ [] ∨
          (∀ n : Fin 16, n.val = i.val → s.lines[n].active = false) → t.src i = s.src i) ∧
        ((∀ c ∈ s.stack, 1 ≤ (s.src c.source).quota) →
          let due : List Context := s.stack.filter fun c => decide ((s.src c.source).admitOn = true ∧ (s.src c.source).queue = [] ∧
            ∃ n : Fin 16, n.val = c.source.val ∧ s.lines[n].active = true)
          t.freeCount = s.freeCount - min s.freeCount due.length ∧
          t.flags = { s.flags with
            poolLow := s.flags.poolLow || decide (t.freeCount < s.lowMark ∧ s.lowMark ≤ s.freeCount)
            poolEmpty := s.flags.poolEmpty || decide (s.freeCount < due.length)
            missed := s.flags.missed || decide (s.freeCount < due.length) } ∧
          ∀ (k : Fin due.length) (n : Fin 16), n.val = due[k].source.val →
            (k.val < s.freeCount → t.src due[k].source = { s.src due[k].source with
              queue := [{ source := due[k].source, kind := .level, stamp := s.timestamp, datum := s.octet n }] }) ∧
            (s.freeCount ≤ k.val → t.src due[k].source = { s.src due[k].source with
              missed := min 255 ((s.src due[k].source).missed + 1) })))

/-- With RESET_N not low: operand 0 to 23 is answered OK, the source's queue becomes empty, its credits 0, the free count rises by the former depth, and everything else stays, its missed count, its configuration and the stack among it, whatever its state, ADMIT and BID; operand 24 to 255 is answered BAD_SOURCE and nothing else changes. [derived: spec/01_event_records_the_slot_pool_and_admission.md, section 6] -/
def Obligations.FlushReleasesOneQueue : Prop :=
  ∀ (s : State) (b : Byte), s.resetLow = false →
    (∀ i : Fin 24, b.toNat = i.val →
      exec (.flush b) s = .next { s.setSrc i { s.src i with queue := [], credits := 0 } with
        dataOut := none, cmdStatus := .ok, freeCount := s.freeCount + (s.src i).queue.length }) ∧
    (24 ≤ b.toNat → exec (.flush b) s = .next { s with dataOut := none, cmdStatus := .badSource })

/-- With RESET_N not low, records in range and LOW_MARK at most 63: CLEAR is answered OK; the stack is empty, the latch is NONE with every field 0, every missed count and credit is 0, each source keeps its configuration; a line source with ADMIT on and an active line in a LEVEL mode holds exactly the LEVEL record of the current timestamp and its octet as it stands, every other queue is empty; the free count is 64 less the records; BUDGET, POOL_EMPTY and MISSED are clear, and POOL_LOW is set exactly when the free count ended below LOW_MARK; everything CLEAR keeps stays: Timebase, lines, timers, POST_SRC, LOW_MARK, aging, FLOOR, budgets, enables, ALERT_SOURCE, selectors, holding bytes and read latches. [derived: spec/08_host_bus_and_register_window.md, section 3.4, spec/01_event_records_the_slot_pool_and_admission.md, section 7, spec/03_line_inputs.md, section 6.4] -/
def Obligations.ClearEmptiesThePartAndReasserts : Prop :=
  ∀ (s : State) (b : Byte), s.resetLow = false → s.SourcesInRange → s.lowMark ≤ 63 →
    ∃ t, exec (.clear b) s = .next t ∧ t.dataOut = none ∧ t.cmdStatus = .ok ∧ t.stack = [] ∧
      t.latch = { result := .none, kind := none, source := 0, datum := 0, stamp := 0, missed := 0 } ∧
      (∀ i : Fin 24, (t.src i).missed = 0 ∧ (t.src i).credits = 0 ∧ (t.src i).config = (s.src i).config) ∧
      (∀ n : Fin 16, (t.src (lineSource n)).queue =
        if s.lines[n].active = true ∧ (s.src (lineSource n)).admitOn = true then
          [{ source := lineSource n, kind := .level, stamp := s.timestamp, datum := s.octet n }] else []) ∧
      (∀ i : Fin 24, 16 ≤ i.val → (t.src i).queue = []) ∧
      t.freeCount + t.totalDepth = 64 ∧
      t.flags = { budget := false, poolLow := decide (t.freeCount < s.lowMark), poolEmpty := false, missed := false } ∧
      { t with latch := s.latch, cmdStatus := s.cmdStatus }.settings = s.settings ∧
      t.lines = s.lines ∧ t.timers = s.timers ∧ t.timestamp = s.timestamp ∧ t.clkCount = s.clkCount ∧
      t.intervalDivider = s.intervalDivider ∧ t.agingCount = s.agingCount ∧ t.alertSource = s.alertSource

/-- With RESET_N not low and operand n of 0 to 3: TIMER_ARM makes timer n RUNNING with its count loaded from its period, whatever state and count it had, and TIMER_STOP makes it STOPPED with its count kept; each is answered OK, and mode, period, the other timers, every queue and everything else stay. With operand 4 to 255 each is answered BAD_TIMER and nothing else changes. [derived: spec/04_timebase_interval_sources_and_posted_events.md, section 2.2] -/
def Obligations.TimerArmAndStop : Prop :=
  ∀ (s : State) (b : Byte), s.resetLow = false →
    (∀ n : Fin 4, b.toNat = n.val →
      exec (.timerArm b) s = .next { s with
        dataOut := none, cmdStatus := .ok, timers := s.timers.set n { s.timers[n] with running := true, count := s.timers[n].period } } ∧
      exec (.timerStop b) s = .next { s with
        dataOut := none, cmdStatus := .ok, timers := s.timers.set n { s.timers[n] with running := false } }) ∧
    (4 ≤ b.toNat →
      exec (.timerArm b) s = .next { s with dataOut := none, cmdStatus := .badTimer } ∧
      exec (.timerStop b) s = .next { s with dataOut := none, cmdStatus := .badTimer })

/-- While ticks come and timer n is RUNNING with count 1: TIMER_EXPIRY n admits the INTERVAL record of source 20 + n with datum 1 and the timestamp, and the timer then is RUNNING with the stored period as count in REPEAT, or STOPPED with count 0 in ONE_SHOT, whatever admission did (that the command alone is the unit's part of the expiring tick, with the timestamp as it stands, is the model's choice: logs 4 and 17); with ADMIT off that is all; with ADMIT on and a queued record of datum below 255 that datum rises by 1 and nothing else changes; with ADMIT on, an empty queue and a free slot the record is queued and the free count falls by 1. [derived: spec/04_timebase_interval_sources_and_posted_events.md, section 2.3] -/
def Obligations.TimerExpiryMakesItsArrivalAndContinues : Prop :=
  ∀ (s : State) (n : Fin 4), s.tbRun = true → s.resetLow = false → s.timers[n].running = true → s.timers[n].count = 1 →
    let i : Fin 24 := timerSource n
    let r : Record := { source := i, kind := .interval, stamp := s.timestamp, datum := 1 }
    let after : Vector Timer 4 := s.timers.set n (if s.timers[n].mode = .repeating
      then { s.timers[n] with count := s.timers[n].period } else { s.timers[n] with running := false, count := 0 })
    let s0 : State := { s with dataOut := none }
    i.val = 20 + n.val ∧
    exec (.timerExpiry n) s = .next { (s0.admitArrival r).2 with timers := after } ∧
    ((s.src i).admitOn = false → exec (.timerExpiry n) s = .next { s0 with timers := after }) ∧
    (∀ h : Record, (s.src i).admitOn = true → (s.src i).queue = [h] → h.datum ≠ 255 →
      exec (.timerExpiry n) s = .next { s0.setSrc i { s.src i with queue := [{ h with datum := h.datum + 1 }] } with timers := after }) ∧
    ((s.src i).admitOn = true → (s.src i).queue = [] → 1 ≤ s.freeCount →
      ∃ t, exec (.timerExpiry n) s = .next t ∧ (t.src i).queue = [r] ∧ t.freeCount = s.freeCount - 1 ∧ t.timers = after)

/-- While ticks come, AGE_PERIOD is not 0 and the aging count is 1: AGING_EXPIRY gives every source that is eligible and below 16 credits one more credit, raising its bid by 1, leaves every other source record as it was (one at 16 or more, and one that is IDLE, or PENDING with BID off, or on the stack), loads the aging count from AGE_PERIOD and changes nothing else (that the command alone is the unit's part of the expiring tick is the model's choice, log 4); on a non-empty stack, where the records are in range, the grant condition is as it was. [derived: spec/05_arbitration.md, section 3.1, spec/05_arbitration.md, section 3.2] -/
def Obligations.AgingExpiryGivesOneCreditToEveryEligibleSource : Prop :=
  ∀ s : State, s.tbRun = true → s.resetLow = false → s.agePeriod ≠ 0 → s.agingCount = 1 →
    ∃ t, exec .agingExpiry s = .next t ∧
      (∀ i : Fin 24,
        (s.eligible i = true → (s.src i).credits < 16 →
          t.src i = { s.src i with credits := (s.src i).credits + 1 } ∧ t.bidOf i = s.bidOf i + 1) ∧
        (s.eligible i = false ∨ 16 ≤ (s.src i).credits → t.src i = s.src i) ∧
        ((s.src i).queue = [] ∨ (s.src i).bid = false ∨ s.onStack i = true → t.src i = s.src i)) ∧
      t = { s with dataOut := none, agingCount := s.agePeriod, sources := t.sources } ∧
      (s.stack ≠ [] → s.SourcesInRange → t.grantCondition = s.grantCondition)

/-- While ticks come and the top context is RUNNING with 1 remaining: BUDGET_EXPIRY (alone it is the unit's part of the expiring tick, the model's choice, log 4) makes it EXPIRED with 0 remaining, sets the BUDGET flag, sets ALERT_SOURCE to its source, and sets its held class to 0 when the ACTION of its held class is DEMOTE, keeping it under NOTIFY; its source, granted bid, grant stamp and taken count, the contexts below, every source record, the latch, CMD_STATUS and everything else stay. After DEMOTE with 1 to 5 contexts, an eligible winner of class 1 or above has the grant condition holding. [derived: spec/07_service_budgets_and_alerts.md, section 2.1, spec/07_service_budgets_and_alerts.md, section 2.2] -/
def Obligations.BudgetExpiryExpiresTheTopContext : Prop :=
  ∀ (s : State) (c : Context) (rest : List Context), s.tbRun = true → s.resetLow = false → s.stack = c :: rest →
    c.bstate = .running → c.remaining = 1 →
    let act : BudgetAction := (s.budgets[c.heldClass.toNat]'c.heldClass.isLt).action
    let t : State := { s with
      dataOut := none, flags := { s.flags with budget := true }, alertSource := c.source
      stack := { c with bstate := .expired, remaining := 0, heldClass := if act = .demote then 0 else c.heldClass } :: rest }
    exec .budgetExpiry s = .next t ∧
    (act = .demote → s.stack.length ≤ 5 → ∀ w : Fin 24, t.winner = some w → 1 ≤ (t.src w).cls.toNat → t.reqAsserted = true)

/-- TICK, TIMER_EXPIRY, AGING_EXPIRY and BUDGET_EXPIRY change nothing (D7 to D0 not driven) while TB_RUN is 0. While ticks come, TIMER_EXPIRY of a timer that is STOPPED or whose count is not 1, AGING_EXPIRY with AGE_PERIOD 0 or the aging count not 1, and BUDGET_EXPIRY with an empty stack or a top that is not RUNNING with 1 remaining change nothing. What an expiry command means when its count is not at 1 is the model's choice (log 4). [derived: spec/04_timebase_interval_sources_and_posted_events.md, section 1.2, spec/04_timebase_interval_sources_and_posted_events.md, section 2.3, spec/05_arbitration.md, section 3.1, spec/07_service_budgets_and_alerts.md, section 1.3] -/
def Obligations.ExpiriesThatAreNotDueDoNothing : Prop :=
  ∀ (s : State),
    (s.tbRun = false → ∀ (w : Word) (n : Fin 4), exec (.tick w) s = .next { s with dataOut := none } ∧
      exec (.timerExpiry n) s = .next { s with dataOut := none } ∧ exec .agingExpiry s = .next { s with dataOut := none } ∧
      exec .budgetExpiry s = .next { s with dataOut := none }) ∧
    (∀ n : Fin 4, s.timers[n].running = false ∨ s.timers[n].count ≠ 1 → exec (.timerExpiry n) s = .next { s with dataOut := none }) ∧
    (s.agePeriod = 0 ∨ s.agingCount ≠ 1 → exec .agingExpiry s = .next { s with dataOut := none }) ∧
    ((∀ (c : Context) (rest : List Context), s.stack = c :: rest → c.bstate ≠ .running ∨ c.remaining ≠ 1) →
      exec .budgetExpiry s = .next { s with dataOut := none })

/-- While ticks come, TICK with any sample answers a state with the timestamp raised by 1 (65535 becoming 0), the CLK count 0, the stored divider in force, D7 to D0 not driven; every setting stays (divider, TB_RUN, POST_SRC, LOW_MARK, AGE_PERIOD, FLOOR, the latch, budgets, enables, selectors, CMD_STATUS, read latches, holding bytes, the queue of commands), every source keeps its configuration, and the stack keeps its contexts in order with every context below the top as it was. TICK stands for the CLK periods left of its interval (log 3). [derived: spec/04_timebase_interval_sources_and_posted_events.md, section 1.1, spec/04_timebase_interval_sources_and_posted_events.md, section 1.3, spec/04_timebase_interval_sources_and_posted_events.md, section 1.4] -/
def Obligations.TickAdvancesTimeAndKeepsTheSettings : Prop :=
  ∀ (s : State) (w : Word), s.tbRun = true → s.resetLow = false →
    ∃ t, exec (.tick w) s = .next t ∧ t.timestamp = s.timestamp + 1 ∧ (s.timestamp = 65535 → t.timestamp = 0) ∧
      t.clkCount = 0 ∧ t.intervalDivider = s.divider ∧ t.dataOut = none ∧ t.settings = s.settings ∧
      (∀ i : Fin 24, (t.src i).config = (s.src i).config) ∧
      t.stack.map Context.source = s.stack.map Context.source ∧ t.stack.tail = s.stack.tail

/-- While ticks come, after TICK with sample w each line n has bit n of w as raw level, is seeded, and keeps its mode and filter count; an unseeded line takes the sample as qualified level with run count 0; a seeded line keeps its qualified level with run count 0 when the sample equals it, keeps it with the run count raised by 1 when the sample differs and run count plus 1 is below the filter count, and takes the sample with run count 0 when run count plus 1 is at least the filter count. [derived: spec/03_line_inputs.md, section 2, spec/03_line_inputs.md, section 3, spec/03_line_inputs.md, section 4.1] -/
def Obligations.TickSeedsOrQualifiesEachLine : Prop :=
  ∀ (s : State) (w : Word), s.tbRun = true → s.resetLow = false →
    ∃ t, exec (.tick w) s = .next t ∧ ∀ n : Fin 16,
      t.lines[n].raw = w.getLsbD n.val ∧ t.lines[n].seeded = true ∧ t.lines[n].mode = s.lines[n].mode ∧ t.lines[n].filter = s.lines[n].filter ∧
      (s.lines[n].seeded = false → t.lines[n].qual = w.getLsbD n.val ∧ t.lines[n].run = 0) ∧
      (s.lines[n].seeded = true → w.getLsbD n.val = s.lines[n].qual → t.lines[n].qual = s.lines[n].qual ∧ t.lines[n].run = 0) ∧
      (s.lines[n].seeded = true → w.getLsbD n.val ≠ s.lines[n].qual → s.lines[n].run + 1 < s.lines[n].filter →
        t.lines[n].qual = s.lines[n].qual ∧ t.lines[n].run = s.lines[n].run + 1) ∧
      (s.lines[n].seeded = true → w.getLsbD n.val ≠ s.lines[n].qual → s.lines[n].filter ≤ s.lines[n].run + 1 →
        t.lines[n].qual = w.getLsbD n.val ∧ t.lines[n].run = 0)

/-- While ticks come, for TICK with sample w and each line n: when the line is unseeded, or the sample does not qualify, or the mode makes nothing of its direction, or ADMIT is off, source n keeps its queue and missed count. Else, with the record of source n, the kind the mode gives, the tick's timestamp and the octet after the tick: on a full KEEP_OLDEST queue it is discarded, on a full KEEP_NEWEST queue it displaces the head, each with missed +1 (saturating) and MISSED set. With depth below quota it is appended at the tail, or POOL_EMPTY and MISSED are set, missed rises by 1 and the record is discarded under KEEP_OLDEST or at depth 0 and displaces the head under KEEP_NEWEST at depth 1 or more; it is appended when at least as many slots were free as the tick has arrivals that need one (20 at most), and lost in that way when none was; between these the order of the tick's arrivals decides (log 5), and no loss leaves a slot free. A posted source keeps its queue and missed count. The free count does not rise, and POOL_LOW is set exactly when it was set or the free count crossed LOW_MARK. [derived: spec/03_line_inputs.md, section 4.1, spec/03_line_inputs.md, section 5.1, spec/03_line_inputs.md, section 5.2, spec/01_event_records_the_slot_pool_and_admission.md, section 2.2, spec/01_event_records_the_slot_pool_and_admission.md, section 2.3, spec/01_event_records_the_slot_pool_and_admission.md, section 4.3, spec/01_event_records_the_slot_pool_and_admission.md, section 4.4, spec/01_event_records_the_slot_pool_and_admission.md, section 4.5] -/
def Obligations.TickMakesTheArrivalOfAQualifiedTransition : Prop :=
  ∀ (s : State) (w : Word), s.tbRun = true → s.resetLow = false →
    ∃ t, exec (.tick w) s = .next t ∧
      (∀ i : Fin 24, 16 ≤ i.val → i.val < 20 → (t.src i).queue = (s.src i).queue ∧ (t.src i).missed = (s.src i).missed) ∧
      t.freeCount ≤ s.freeCount ∧
      (t.flags.poolLow = true ↔ s.flags.poolLow = true ∨ (t.freeCount < s.lowMark ∧ s.lowMark ≤ s.freeCount)) ∧
      ∀ n : Fin 16,
        let l : Line := s.lines[n]
        let b : Bool := w.getLsbD n.val
        let i : Fin 24 := lineSource n
        let kind : Option Kind := match l.mode, b with
          | .rise, true => some .rise | .fall, false => some .fall | .both, true => some .rise | .both, false => some .fall
          | .levelHigh, true => some .level | .levelLow, false => some .level | _, _ => none
        (l.seeded = false ∨ b = l.qual ∨ l.run + 1 < l.filter ∨ kind = none ∨ (s.src i).admitOn = false →
          (t.src i).queue = (s.src i).queue ∧ (t.src i).missed = (s.src i).missed) ∧
        (∀ k : Kind, l.seeded = true → b ≠ l.qual → l.filter ≤ l.run + 1 → kind = some k → (s.src i).admitOn = true →
          let r : Record := { source := i, kind := k, stamp := s.timestamp + 1, datum := t.octet n }
          let lost : Prop := (t.src i).missed = min 255 ((s.src i).missed + 1) ∧ t.flags.missed = true
          ((s.src i).quota ≤ (s.src i).queue.length → (s.src i).policy = .keepOldest → (t.src i).queue = (s.src i).queue ∧ lost) ∧
          ((s.src i).quota ≤ (s.src i).queue.length → (s.src i).policy = .keepNewest →
            (t.src i).queue = (s.src i).queue.tail ++ [r] ∧ lost) ∧
          ((s.src i).queue.length < (s.src i).quota →
            let appended : Prop := (t.src i).queue = (s.src i).queue ++ [r] ∧ (t.src i).missed = (s.src i).missed
            let metEmptyPool : Prop := lost ∧ t.flags.poolEmpty = true ∧ t.freeCount = 0 ∧
              (t.src i).queue = if (s.src i).policy = .keepNewest ∧ (s.src i).queue ≠ [] then (s.src i).queue.tail ++ [r] else (s.src i).queue
            (appended ∨ metEmptyPool) ∧ (20 ≤ s.freeCount ∨ ((s.advanceTime.tickArrivals w).filter s.needsSlot).length ≤ s.freeCount → appended) ∧ (s.freeCount = 0 → metEmptyPool)))

/-- While ticks come, for each timer n at TICK: a STOPPED timer stays; a RUNNING one whose count is not 1 has it lowered by 1 (0 becoming 65535); one with count 1 is RUNNING with the stored period as count in REPEAT, or STOPPED with count 0 in ONE_SHOT. Without an expiry, or with ADMIT off, source 20 + n keeps its queue and missed count. With an expiry and ADMIT on: a queued record of datum below 255 has it raised by 1, missed staying; one of datum 255 stays, missed rises by 1 (saturating) and MISSED is set; an empty queue takes the INTERVAL record with datum 1 and the tick's timestamp, or the expiry is lost with missed +1 and POOL_EMPTY and MISSED set: it is queued when at least as many slots were free as the tick has arrivals that need one (20 at most), and lost when none was; between these the order of the tick's arrivals decides (log 5), and no loss leaves a slot free. [derived: spec/04_timebase_interval_sources_and_posted_events.md, section 2.3, spec/01_event_records_the_slot_pool_and_admission.md, section 2.3, spec/01_event_records_the_slot_pool_and_admission.md, section 4.2, spec/01_event_records_the_slot_pool_and_admission.md, section 4.5] -/
def Obligations.TickCountsTheTimers : Prop :=
  ∀ (s : State) (w : Word), s.tbRun = true → s.resetLow = false →
    ∃ t, exec (.tick w) s = .next t ∧ ∀ n : Fin 4,
      let i : Fin 24 := timerSource n
      let lost : Prop := (t.src i).missed = min 255 ((s.src i).missed + 1) ∧ t.flags.missed = true
      (s.timers[n].running = false → t.timers[n] = s.timers[n]) ∧
      (s.timers[n].running = true → s.timers[n].count ≠ 1 → t.timers[n] = { s.timers[n] with count := s.timers[n].count - 1 }) ∧
      (s.timers[n].running = true → s.timers[n].count = 1 → s.timers[n].mode = .repeating →
        t.timers[n] = { s.timers[n] with count := s.timers[n].period }) ∧
      (s.timers[n].running = true → s.timers[n].count = 1 → s.timers[n].mode = .oneShot →
        t.timers[n] = { s.timers[n] with running := false, count := 0 }) ∧
      (s.timers[n].running = false ∨ s.timers[n].count ≠ 1 ∨ (s.src i).admitOn = false →
        (t.src i).queue = (s.src i).queue ∧ (t.src i).missed = (s.src i).missed) ∧
      (s.timers[n].running = true → s.timers[n].count = 1 → (s.src i).admitOn = true →
        (∀ h : Record, (s.src i).queue = [h] →
          (h.datum ≠ 255 → (t.src i).queue = [{ h with datum := h.datum + 1 }] ∧ (t.src i).missed = (s.src i).missed) ∧
          (h.datum = 255 → (t.src i).queue = [h] ∧ lost)) ∧
        ((s.src i).queue = [] →
          let queued : Prop := (t.src i).queue = [{ source := i, kind := .interval, stamp := s.timestamp + 1, datum := 1 }] ∧
            (t.src i).missed = (s.src i).missed
          let metEmptyPool : Prop := lost ∧ t.flags.poolEmpty = true ∧ t.freeCount = 0 ∧ (t.src i).queue = []
          (queued ∨ metEmptyPool) ∧ (20 ≤ s.freeCount ∨ ((s.advanceTime.tickArrivals w).filter s.needsSlot).length ≤ s.freeCount → queued) ∧ (s.freeCount = 0 → metEmptyPool)))

/-- While ticks come, at TICK: with AGE_PERIOD 0 the aging count stays; else it is lowered by 1, or loaded with AGE_PERIOD when it was 1. When it did not reach 0, every source keeps its credits. When it did, a source eligible before the tick gains one credit below 16 and none at 16 or more; a source with BID off, or on the stack, gains none, and so does one that was not eligible and whose queue the tick leaves as it was (an IDLE source for which the tick queues no arrival); an IDLE source that the tick's arrival makes eligible gains none or one, as the arrival falls after or before the expiry (log 5). [derived: spec/05_arbitration.md, section 3.1, spec/05_arbitration.md, section 3.2, spec/05_arbitration.md, section 3.4] -/
def Obligations.TickCountsTheAgingPeriod : Prop :=
  ∀ (s : State) (w : Word), s.tbRun = true → s.resetLow = false →
    ∃ t, exec (.tick w) s = .next t ∧
      (s.agePeriod = 0 → t.agingCount = s.agingCount) ∧
      (s.agePeriod ≠ 0 → s.agingCount ≠ 1 → t.agingCount = s.agingCount - 1) ∧
      (s.agePeriod ≠ 0 → s.agingCount = 1 → t.agingCount = s.agePeriod) ∧
      (s.agePeriod = 0 ∨ s.agingCount ≠ 1 → ∀ i : Fin 24, (t.src i).credits = (s.src i).credits) ∧
      (s.agePeriod ≠ 0 → s.agingCount = 1 → ∀ i : Fin 24,
        (s.eligible i = true → (s.src i).credits < 16 → (t.src i).credits = (s.src i).credits + 1) ∧
        (16 ≤ (s.src i).credits ∨ (s.src i).bid = false ∨ s.onStack i = true → (t.src i).credits = (s.src i).credits) ∧
        (s.eligible i = false → (t.src i).queue = (s.src i).queue → (t.src i).credits = (s.src i).credits) ∧
        ((t.src i).credits = (s.src i).credits ∨ (t.src i).credits = (s.src i).credits + 1))

/-- While ticks come, at TICK: an empty stack stays empty; a top that is not RUNNING stays as it was; a RUNNING top with remaining not 1 has it lowered by 1 and else stays; one with 1 remaining becomes EXPIRED with 0 remaining, held class 0 when the ACTION of its held class is DEMOTE, the BUDGET flag is set and ALERT_SOURCE names its source. Without that expiry BUDGET and ALERT_SOURCE stay. [derived: spec/07_service_budgets_and_alerts.md, section 1.2, spec/07_service_budgets_and_alerts.md, section 1.3, spec/07_service_budgets_and_alerts.md, section 2.1, spec/07_service_budgets_and_alerts.md, section 2.2] -/
def Obligations.TickCountsTheTopBudget : Prop :=
  ∀ (s : State) (w : Word), s.tbRun = true → s.resetLow = false →
    ∃ t, exec (.tick w) s = .next t ∧
      (s.stack = [] → t.stack = [] ∧ t.flags.budget = s.flags.budget ∧ t.alertSource = s.alertSource) ∧
      (∀ (c : Context) (rest : List Context), s.stack = c :: rest →
        (c.bstate ≠ .running → t.stack = s.stack ∧ t.flags.budget = s.flags.budget ∧ t.alertSource = s.alertSource) ∧
        (c.bstate = .running → c.remaining ≠ 1 →
          t.stack = { c with remaining := c.remaining - 1 } :: rest ∧ t.flags.budget = s.flags.budget ∧ t.alertSource = s.alertSource) ∧
        (c.bstate = .running → c.remaining = 1 →
          t.stack = { c with
            bstate := .expired, remaining := 0
            heldClass := if (s.budgets[c.heldClass.toNat]'c.heldClass.isLt).action = .demote then 0 else c.heldClass } :: rest ∧
          t.flags.budget = true ∧ t.alertSource = c.source))

/-- With RESET_N not low and SRC_SEL at i of 0 to 23: SRC_CFG sets ADMIT, BID and DEPTH_BOOST from bits 0, 1 and 2 and, for a line or posted source, the policy from bits 5:4 (code 1 KEEP_NEWEST, else KEEP_OLDEST), an interval source keeping its policy; SRC_CLASS stores the low three bits; SRC_QUOTA stores the value within 1 to 16; each changes nothing else, queue, context and state of no source. With SRC_SEL at 24 to 255 each is ignored. [derived: spec/02_the_source_table.md, section 1.2, spec/02_the_source_table.md, section 4.1, spec/02_the_source_table.md, section 4.2, spec/08_host_bus_and_register_window.md, section 6] -/
def Obligations.SourcePageWritesStoreTheSelectedRecord : Prop :=
  ∀ (s : State) (b : Byte), s.resetLow = false →
    (∀ i : Fin 24, s.srcSel.toNat = i.val →
      exec (.srcCfg b) s = .next { s.setSrc i { s.src i with
          admitOn := b.getLsbD 0, bid := b.getLsbD 1, depthBoost := b.getLsbD 2
          policy := if 20 ≤ i.val then (s.src i).policy
            else if b.getLsbD 5 = false ∧ b.getLsbD 4 = true then .keepNewest else .keepOldest } with dataOut := none } ∧
      exec (.srcClass b) s = .next { s.setSrc i { s.src i with cls := BitVec.ofNat 3 (b.toNat % 8) } with dataOut := none } ∧
      exec (.srcQuota b) s = .next { s.setSrc i { s.src i with
          quota := if b.toNat = 0 then 1 else if b.toNat ≤ 16 then b.toNat else 16 } with dataOut := none }) ∧
    (24 ≤ s.srcSel.toNat → ∀ c ∈ [Instr.srcCfg b, .srcClass b, .srcQuota b, .srcLine b], exec c s = .next { s with dataOut := none })

/-- With RESET_N not low and SRC_SEL at a line or posted source: after SRC_CFG of byte b, SRC_CFG reads bits 2:0 of b with bit 4 set exactly when bits 5:4 of b were 01, and SRC_CLASS, SRC_QUOTA, SRC_MISSED and SRC_LINE read as before. At an interval source whose policy is COALESCE it reads bits 2:0 of b with bit 5 set. [derived: spec/02_the_source_table.md, section 4.2, spec/08_host_bus_and_register_window.md, section 6] -/
def Obligations.SrcCfgReadsBackWhatItStored : Prop :=
  ∀ (s t : State) (b : Byte) (i : Fin 24), s.resetLow = false → s.srcSel.toNat = i.val → exec (.srcCfg b) s = .next t →
    (i.val < 20 → t.windowRead .srcCfg = (b &&& 0x07) ||| (if b &&& 0x30 = 0x10 then 0x10 else 0x00)) ∧
    (20 ≤ i.val → (s.src i).policy = .coalesce → t.windowRead .srcCfg = (b &&& 0x07) ||| 0x20) ∧
    (∀ r ∈ ([.srcClass, .srcQuota, .srcMissed, .srcLine] : List Reg), t.windowRead r = s.windowRead r)

/-- With RESET_N not low and SRC_SEL at line source n: SRC_LINE stores the mode of bits 2:0 (6 and 7 as OFF) and the filter count of bits 7:4 (0 as 1), keeps raw, qualified level, run count and seeded, and every other line. When the mode is left as it is, or the new mode is no LEVEL mode, or the line is not active under it, or the queue is not empty, or the source is on the stack, nothing else changes. When none of these holds a re-assertion is due: with ADMIT off nothing else changes; with ADMIT on, the quota at least 1 and a slot free, source n holds one LEVEL record with the current timestamp and its octet, the free count falls by 1 and POOL_LOW is set when it was LOW_MARK; with no slot free the missed count of source n rises by 1 (saturating) and POOL_EMPTY and MISSED are set, whatever the policy; nothing else changes. With SRC_SEL at 16 to 255 it is ignored. [derived: spec/03_line_inputs.md, section 4.3, spec/03_line_inputs.md, section 5.1, spec/03_line_inputs.md, section 5.3, spec/03_line_inputs.md, section 6.2, spec/03_line_inputs.md, section 6.5, spec/08_host_bus_and_register_window.md, section 6, spec/01_event_records_the_slot_pool_and_admission.md, section 2.2] -/
def Obligations.SrcLineSetsModeAndFilterAndMayReassert : Prop :=
  ∀ (s : State) (b : Byte), s.resetLow = false →
    (∀ n : Fin 16, s.srcSel.toNat = n.val →
      let m : LineMode := match b.toNat % 8 with
        | 1 => .rise | 2 => .fall | 3 => .both | 4 => .levelHigh | 5 => .levelLow | _ => .off
      let f : Nat := if b.toNat / 16 = 0 then 1 else b.toNat / 16
      let i : Fin 24 := lineSource n
      let s1 : State := { s with dataOut := none, lines := s.lines.set n { s.lines[n] with mode := m, filter := f } }
      (m = s.lines[n].mode ∨ (m ≠ .levelHigh ∧ m ≠ .levelLow) ∨ s1.lines[n].active = false ∨ (s.src i).queue ≠ [] ∨ s.onStack i = true →
        exec (.srcLine b) s = .next s1) ∧
      (m ≠ s.lines[n].mode → (m = .levelHigh ∨ m = .levelLow) → s1.lines[n].active = true → (s.src i).queue = [] → s.onStack i = false →
        ((s.src i).admitOn = false → exec (.srcLine b) s = .next s1) ∧
        ((s.src i).admitOn = true → 1 ≤ (s.src i).quota → 1 ≤ s.freeCount →
          exec (.srcLine b) s = .next { s1.setSrc i { s.src i with
              queue := [{ source := i, kind := .level, stamp := s.timestamp, datum := s.octet n }] } with
            freeCount := s.freeCount - 1
            flags := { s.flags with poolLow := s.flags.poolLow || decide (s.freeCount = s.lowMark) } }) ∧
        ((s.src i).admitOn = true → 1 ≤ (s.src i).quota → s.freeCount = 0 →
          exec (.srcLine b) s = .next { s1.setSrc i { s.src i with missed := min 255 ((s.src i).missed + 1) } with
            flags := { s.flags with poolEmpty := true, missed := true } }))) ∧
    (16 ≤ s.srcSel.toNat → exec (.srcLine b) s = .next { s with dataOut := none })

/-- With RESET_N not low: FLOOR stores the byte; LOW_MARK stores it within 0 to 63 and sets no flag; ALERT_FLAGS clears each flag whose bit (0 BUDGET, 1 POOL_LOW, 2 POOL_EMPTY, 3 MISSED) is written 1 and leaves the others; ALERT_ENABLE stores those four bits as the enables; nothing else changes. FLOOR and LOW_MARK read their fields. [derived: spec/05_arbitration.md, section 4, spec/01_event_records_the_slot_pool_and_admission.md, section 2.2, spec/07_service_budgets_and_alerts.md, section 3.2, spec/07_service_budgets_and_alerts.md, section 3.3, spec/08_host_bus_and_register_window.md, section 6] -/
def Obligations.ByteRegistersStoreTheirField : Prop :=
  ∀ (s : State) (b : Byte), s.resetLow = false →
    exec (.floor b) s = .next { s with dataOut := none, floor := b } ∧
    exec (.lowMark b) s = .next { s with dataOut := none, lowMark := if b.toNat ≤ 63 then b.toNat else 63 } ∧
    exec (.alertFlags b) s = .next { s with
      dataOut := none
      flags := { budget := if b.getLsbD 0 then false else s.flags.budget, poolLow := if b.getLsbD 1 then false else s.flags.poolLow,
                 poolEmpty := if b.getLsbD 2 then false else s.flags.poolEmpty, missed := if b.getLsbD 3 then false else s.flags.missed } } ∧
    exec (.alertEnable b) s = .next { s with
      dataOut := none
      enables := { budget := b.getLsbD 0, poolLow := b.getLsbD 1, poolEmpty := b.getLsbD 2, missed := b.getLsbD 3 } } ∧
    s.windowRead .floor = s.floor ∧ (s.lowMark ≤ 63 → (s.windowRead .lowMark).toNat = s.lowMark)

/-- With RESET_N not low ALERT_N is asserted exactly when BUDGET, POOL_LOW, POOL_EMPTY or MISSED is set with its enable on; with RESET_N low it is released; writing 0Fh to ALERT_FLAGS releases it; reading ALERT_FLAGS returns the flags, and ALERT_ENABLE the enables, in bits 3:0 (0 BUDGET, 1 POOL_LOW, 2 POOL_EMPTY, 3 MISSED) and 0 in bits 7:4; ALERT_SOURCE reads the source's number. [derived: spec/07_service_budgets_and_alerts.md, section 3.2, spec/07_service_budgets_and_alerts.md, section 3.3, spec/07_service_budgets_and_alerts.md, section 3.4, spec/08_host_bus_and_register_window.md, section 4, spec/08_host_bus_and_register_window.md, section 6] -/
def Obligations.AlertLineFollowsTheEnabledFlags : Prop :=
  ∀ s : State,
    (s.resetLow = false → (s.alertAsserted = true ↔
      (s.flags.budget = true ∧ s.enables.budget = true) ∨ (s.flags.poolLow = true ∧ s.enables.poolLow = true) ∨
      (s.flags.poolEmpty = true ∧ s.enables.poolEmpty = true) ∨ (s.flags.missed = true ∧ s.enables.missed = true))) ∧
    (s.resetLow = true → s.alertAsserted = false) ∧
    (s.resetLow = false → ∃ t, exec (.alertFlags 0x0F) s = .next t ∧ t.alertAsserted = false ∧ t.windowRead .alertFlags = 0x00) ∧
    (s.windowRead .alertFlags).toNat = (if s.flags.budget then 1 else 0) + (if s.flags.poolLow then 2 else 0)
      + (if s.flags.poolEmpty then 4 else 0) + (if s.flags.missed then 8 else 0) ∧
    (s.windowRead .alertEnable).toNat = (if s.enables.budget then 1 else 0) + (if s.enables.poolLow then 2 else 0)
      + (if s.enables.poolEmpty then 4 else 0) + (if s.enables.missed then 8 else 0) ∧
    (s.windowRead .alertSource).toNat = s.alertSource.val

/-- With RESET_N not low: a low-byte write of AGE_PERIOD, TB_DIV or STAMP, of TIMER_PERIOD with TIMER_SEL at 0 to 3, and of BUDGET with BUDGET_SEL at 0 to 7 stores the byte in that value's holding byte and changes nothing else. Where v is 256 times the written byte plus the value's holding byte, AGE_PERIOD_H stores v and loads the aging count with it; TB_DIV_H stores v and leaves the interval in progress and its divider; STAMP_H sets the timestamp to v and leaves the CLK count; nothing else changes, the holding bytes among it. [derived: spec/08_host_bus_and_register_window.md, section 2.2, spec/05_arbitration.md, section 3.1, spec/04_timebase_interval_sources_and_posted_events.md, section 1.1, spec/04_timebase_interval_sources_and_posted_events.md, section 1.3] -/
def Obligations.WideWritesHoldTheLowByteAndJoinTheHigh : Prop :=
  ∀ (s : State) (b : Byte), s.resetLow = false →
    exec (.holdingByteWrite .agePeriod b) s = .next { s with dataOut := none, holding := s.holding.set 0 b } ∧
    exec (.holdingByteWrite .tbDiv b) s = .next { s with dataOut := none, holding := s.holding.set 1 b } ∧
    exec (.holdingByteWrite .stamp b) s = .next { s with dataOut := none, holding := s.holding.set 2 b } ∧
    (s.timerSel.toNat < 4 → exec (.holdingByteWrite .timerPeriod b) s = .next { s with dataOut := none, holding := s.holding.set 3 b }) ∧
    (s.budgetSel.toNat < 8 → exec (.holdingByteWrite .budget b) s = .next { s with dataOut := none, holding := s.holding.set 4 b }) ∧
    exec (.agePeriodH b) s = .next { s with
      dataOut := none, agePeriod := BitVec.ofNat 16 (256 * b.toNat + s.holding[0].toNat)
      agingCount := BitVec.ofNat 16 (256 * b.toNat + s.holding[0].toNat) } ∧
    exec (.tbDivH b) s = .next { s with dataOut := none, divider := BitVec.ofNat 16 (256 * b.toNat + s.holding[1].toNat) } ∧
    exec (.stampH b) s = .next { s with dataOut := none, timestamp := BitVec.ofNat 16 (256 * b.toNat + s.holding[2].toNat) }

/-- With RESET_N not low: with TIMER_SEL at n of 0 to 3, TIMER_PERIOD_H stores 256 times the byte plus the holding byte as timer n's period and TIMER_CTRL stores the mode of bit 0 (1 REPEAT), each leaving state and count; with BUDGET_SEL at class c of 0 to 7, BUDGET_H stores the joined value as BUDGET and BUDGET_ACTION stores DEMOTE for bits 1:0 at 01 and else NOTIFY; nothing else changes, no context among it. With TIMER_SEL at 4 to 255, or BUDGET_SEL at 8 to 255, the writes are ignored. TIMER_CTRL reads bit 0 for REPEAT and bit 7 for RUNNING of the selected timer, BUDGET_ACTION 01h for DEMOTE and 00h for NOTIFY of the selected class; with no timer, or no class, selected every address of the page reads 00h (at the high bytes R144 can be read otherwise: the model's choice between rules, log 8). [derived: spec/04_timebase_interval_sources_and_posted_events.md, section 2.1, spec/04_timebase_interval_sources_and_posted_events.md, section 2.4, spec/07_service_budgets_and_alerts.md, section 1.1, spec/08_host_bus_and_register_window.md, section 2.2, spec/08_host_bus_and_register_window.md, section 3.1, spec/08_host_bus_and_register_window.md, section 6] -/
def Obligations.PageWritesReachTheSelectedTimerOrClass : Prop :=
  ∀ (s : State) (b : Byte), s.resetLow = false →
    (∀ n : Fin 4, s.timerSel.toNat = n.val →
      exec (.timerPeriodH b) s = .next { s with
        dataOut := none
        timers := s.timers.set n { s.timers[n] with period := BitVec.ofNat 16 (256 * b.toNat + s.holding[3].toNat) } } ∧
      exec (.timerCtrl b) s = .next { s with
        dataOut := none, timers := s.timers.set n { s.timers[n] with mode := if b.getLsbD 0 then .repeating else .oneShot } } ∧
      (s.windowRead .timerCtrl).toNat = (if s.timers[n].mode = .repeating then 1 else 0) + (if s.timers[n].running then 128 else 0)) ∧
    (∀ c : Fin 8, s.budgetSel.toNat = c.val →
      exec (.budgetH b) s = .next { s with
        dataOut := none
        budgets := s.budgets.set c { s.budgets[c] with budget := BitVec.ofNat 16 (256 * b.toNat + s.holding[4].toNat) } } ∧
      exec (.budgetAction b) s = .next { s with
        dataOut := none
        budgets := s.budgets.set c { s.budgets[c] with action := if b.toNat % 4 = 1 then .demote else .notify } } ∧
      (s.windowRead .budgetAction).toNat = if s.budgets[c].action = .demote then 1 else 0) ∧
    (4 ≤ s.timerSel.toNat → ∀ i ∈ [Instr.timerPeriodH b, .timerCtrl b, .holdingByteWrite .timerPeriod b],
      exec i s = .next { s with dataOut := none }) ∧
    (8 ≤ s.budgetSel.toNat → ∀ i ∈ [Instr.budgetH b, .budgetAction b, .holdingByteWrite .budget b],
      exec i s = .next { s with dataOut := none }) ∧
    (4 ≤ s.timerSel.toNat → ∀ r ∈ ([.timerPeriodL, .timerPeriodH, .timerCountL, .timerCountH, .timerCtrl] : List Reg), s.windowRead r = 0) ∧
    (8 ≤ s.budgetSel.toNat → ∀ r ∈ ([.budgetL, .budgetH, .budgetAction] : List Reg), s.windowRead r = 0)

/-- With RESET_N not low: bit 0 equal to TB_RUN changes nothing; bit 0 at 1 while TB_RUN is 0 sets it, with the CLK count 0 and the stored divider in force; bit 0 at 0 while TB_RUN is 1 clears it and abandons the CLK count. The timestamp and everything else stay. TB_CTRL reads 01h while TB_RUN is 1 and else 00h. (That an abandoned CLK count is 0 is the model's choice, log 13.) [derived: spec/04_timebase_interval_sources_and_posted_events.md, section 1.2, spec/08_host_bus_and_register_window.md, section 6] -/
def Obligations.TbCtrlStopsAndStartsTheTimebase : Prop :=
  ∀ (s : State) (b : Byte), s.resetLow = false →
    (b.getLsbD 0 = s.tbRun → exec (.tbCtrl b) s = .next { s with dataOut := none }) ∧
    (b.getLsbD 0 = true → s.tbRun = false →
      exec (.tbCtrl b) s = .next { s with dataOut := none, tbRun := true, clkCount := 0, intervalDivider := s.divider }) ∧
    (b.getLsbD 0 = false → s.tbRun = true → exec (.tbCtrl b) s = .next { s with dataOut := none, tbRun := false, clkCount := 0 }) ∧
    (s.windowRead .tbCtrl).toNat = (if s.tbRun then 1 else 0)

/-- With RESET_N not low: LOW_BYTE_READ of a view drives the low byte of the view's value, as the low address reads, and stores the value's high byte in that view's latch alone; nothing else changes; the high address, one above the low, then reads that high byte, so the two halves are the value the view had. The views show: the latch's stamp; AGE_PERIOD; the stored divider; the timestamp; bit k of LINE_RAW and LINE_QUAL the raw and qualified level of line k; period and count of the timer that TIMER_SEL selects, the BUDGET of the class that BUDGET_SEL selects, grant stamp and remaining budget of the context at the level in CTX_SEL, each 0 when the selector reaches no record. A high address reads its view's latch in any state; of a page view whose selector reaches no record it reads 00h (the model's choice between rules, log 8). [derived: spec/08_host_bus_and_register_window.md, section 2.1, spec/08_host_bus_and_register_window.md, section 3.1, spec/03_line_inputs.md, section 7, spec/04_timebase_interval_sources_and_posted_events.md, section 1.1, spec/04_timebase_interval_sources_and_posted_events.md, section 1.3, spec/04_timebase_interval_sources_and_posted_events.md, section 2.1, spec/05_arbitration.md, section 3.1, spec/06_service_contexts_and_the_nesting_stack.md, section 2.3, spec/06_service_contexts_and_the_nesting_stack.md, section 4.3, spec/07_service_budgets_and_alerts.md, section 1.1] -/
def Obligations.LowByteReadLatchesTheHighByte : Prop :=
  ∀ (s : State) (v : View), s.resetLow = false →
    let x : Nat := (s.viewWord v).toNat
    let t : State := { s with
      dataOut := some (BitVec.ofNat 8 (x % 256)), readLatch := s.readLatch.set (viewIndex v) (BitVec.ofNat 8 (x / 256)) }
    exec (.lowByteRead v) s = .next t ∧
    (∀ u : View, u ≠ v → t.latched u = s.latched u) ∧
    (s.windowRead v.low).toNat = x % 256 ∧ (t.windowRead v.high).toNat = x / 256 ∧ v.high.addr = v.low.addr + 1 ∧
    s.viewWord .latchStamp = s.latch.stamp ∧ s.viewWord .agePeriod = s.agePeriod ∧ s.viewWord .tbDiv = s.divider ∧
    s.viewWord .stamp = s.timestamp ∧
    (∀ k : Fin 16, (s.viewWord .lineRaw).getLsbD k.val = s.lines[k].raw ∧ (s.viewWord .lineQual).getLsbD k.val = s.lines[k].qual) ∧
    (∀ n : Fin 4, s.timerSel.toNat = n.val →
      s.viewWord .timerPeriod = s.timers[n].period ∧ s.viewWord .timerCount = s.timers[n].count ∧
      s.windowRead .timerPeriodH = s.latched .timerPeriod ∧ s.windowRead .timerCountH = s.latched .timerCount) ∧
    (∀ c : Fin 8, s.budgetSel.toNat = c.val →
      s.viewWord .budget = s.budgets[c].budget ∧ s.windowRead .budgetH = s.latched .budget) ∧
    (∀ c : Context, s.stack[s.ctxSel.toNat]? = some c →
      s.viewWord .ctxStamp = c.grantStamp ∧ s.viewWord .ctxBudget = c.remaining ∧
      s.windowRead .ctxStampH = s.latched .ctxStamp ∧ s.windowRead .ctxBudgetH = s.latched .ctxBudget) ∧
    (∀ u ∈ ([.latchStamp, .agePeriod, .tbDiv, .stamp, .lineRaw, .lineQual] : List View), s.windowRead u.high = s.latched u) ∧
    (4 ≤ s.timerSel.toNat → ∀ u ∈ ([.timerPeriod, .timerCount] : List View), s.viewWord u = 0 ∧ s.windowRead u.high = 0) ∧
    (8 ≤ s.budgetSel.toNat → s.viewWord .budget = 0 ∧ s.windowRead .budgetH = 0) ∧
    (s.stack.length ≤ s.ctxSel.toNat → ∀ u ∈ ([.ctxStamp, .ctxBudget] : List View), s.viewWord u = 0 ∧ s.windowRead u.high = 0)

/-- With RESET_N not low: a write to SRC_SEL, CTX_SEL, TIMER_SEL, BUDGET_SEL or POST_SRC stores the whole byte and changes nothing else; a write to any other register with no row of its own changes nothing. Each of the five selectors reads the byte it holds. [derived: spec/08_host_bus_and_register_window.md, section 1.1, spec/08_host_bus_and_register_window.md, section 3.1, spec/04_timebase_interval_sources_and_posted_events.md, section 3] -/
def Obligations.RegisterWriteStoresASelectorOrIsIgnored : Prop :=
  ∀ (s : State) (b : Byte), s.resetLow = false →
    exec (.registerWrite .srcSel b) s = .next { s with dataOut := none, srcSel := b } ∧
    exec (.registerWrite .ctxSel b) s = .next { s with dataOut := none, ctxSel := b } ∧
    exec (.registerWrite .timerSel b) s = .next { s with dataOut := none, timerSel := b } ∧
    exec (.registerWrite .budgetSel b) s = .next { s with dataOut := none, budgetSel := b } ∧
    exec (.registerWrite .postSrc b) s = .next { s with dataOut := none, postSrc := b } ∧
    (∀ r : Reg, (Instr.registerWrite r b).wf = true → r ∉ ([.srcSel, .ctxSel, .timerSel, .budgetSel, .postSrc] : List Reg) →
      exec (.registerWrite r b) s = .next { s with dataOut := none }) ∧
    s.windowRead .srcSel = s.srcSel ∧ s.windowRead .ctxSel = s.ctxSel ∧ s.windowRead .timerSel = s.timerSel ∧
    s.windowRead .budgetSel = s.budgetSel ∧ s.windowRead .postSrc = s.postSrc

/-- For every well-formed command and state: unless the command is TAKE, CLEAR, RESET_N_LOW or RESET_N_RELEASE the event latch stays; unless it is END_SERVICE, UNWIND, FLUSH, CLEAR, POST, TIMER_ARM, TIMER_STOP, RESET_N_LOW or RESET_N_RELEASE CMD_STATUS stays; unless it is LOW_BYTE_READ of a view, RESET_N_LOW or RESET_N_RELEASE that view's read latch stays, whatever ticks, CLEAR, pushes, pops, selector writes and reads of other views do. In every state CMD_STATUS reads 00h to 08h for OK, NO_CONTEXT, NOT_IN_SERVICE, OUT_OF_ORDER, BAD_SOURCE, BAD_TIMER, DISABLED, DROPPED and REPLACED; LATCH_HDR the result in bits 7:6 (0 NONE, 1 EVENT, 2 EMPTY, 3 NO_CONTEXT) and the kind in bits 2:0 (0 none, 1 RISE to 5 INTERVAL); LATCH_SRC the source's number, LATCH_DATUM the datum, and LATCH_MISSED the missed count, which is at most 255 in every state a run reaches. [derived: spec/06_service_contexts_and_the_nesting_stack.md, section 4.3, spec/08_host_bus_and_register_window.md, section 2.1, spec/08_host_bus_and_register_window.md, section 3.3, spec/08_host_bus_and_register_window.md, section 6] -/
def Obligations.LatchesAndAnswerChangeOnlyAtTheirCommands : Prop :=
  ∀ (s t : State) (c : Instr),
    (c.wf = true → exec c s = .next t → c ≠ .resetNLow → c ≠ .resetNRelease →
      (c ≠ .take → (∀ b, c ≠ .clear b) → t.latch = s.latch) ∧
      ((∀ b, c ≠ .endService b ∧ c ≠ .unwind b ∧ c ≠ .flush b ∧ c ≠ .clear b ∧ c ≠ .post b ∧ c ≠ .timerArm b ∧ c ≠ .timerStop b) →
        t.cmdStatus = s.cmdStatus) ∧
      (∀ v : View, c ≠ .lowByteRead v → t.latched v = s.latched v)) ∧
    (s.windowRead .cmdStatus).toNat = (match s.cmdStatus with
      | .ok => 0 | .noContext => 1 | .notInService => 2 | .outOfOrder => 3 | .badSource => 4 | .badTimer => 5 | .disabled => 6
      | .dropped => 7 | .replaced => 8) ∧
    (s.windowRead .latchHdr).toNat = (match s.latch.result with | .none => 0 | .event => 64 | .empty => 128 | .noContext => 192) +
      (match s.latch.kind with | none => 0 | some .rise => 1 | some .fall => 2 | some .level => 3 | some .post => 4 | some .interval => 5) ∧
    (s.windowRead .latchSrc).toNat = s.latch.source.val ∧ s.windowRead .latchDatum = s.latch.datum ∧
    (s.latch.missed ≤ 255 → (s.windowRead .latchMissed).toNat = s.latch.missed)

/-- For every well-formed command and state: unless the command is GRANT, ACKNOWLEDGE_CYCLE, END_SERVICE, UNWIND, CLEAR, RESET_N_LOW or RESET_N_RELEASE the stack keeps its depth and its contexts' sources; unless it is ALERT_FLAGS, CLEAR, RESET_N_LOW or RESET_N_RELEASE every set alert flag stays set; unless it is TICK, BUDGET_EXPIRY, RESET_N_LOW or RESET_N_RELEASE ALERT_SOURCE stays. [derived: spec/06_service_contexts_and_the_nesting_stack.md, section 1, spec/06_service_contexts_and_the_nesting_stack.md, section 2.3, spec/07_service_budgets_and_alerts.md, section 3.1, spec/07_service_budgets_and_alerts.md, section 3.4] -/
def Obligations.StackDepthAndAlertFlagsChangeOnlyAtTheirCommands : Prop :=
  ∀ (s t : State) (c : Instr), c.wf = true → exec c s = .next t → c ≠ .resetNLow → c ≠ .resetNRelease →
    (c ≠ .grant → (∀ cs a, c ≠ .acknowledgeCycle cs a) → (∀ b, c ≠ .endService b ∧ c ≠ .unwind b ∧ c ≠ .clear b) →
      t.stack.map Context.source = s.stack.map Context.source) ∧
    ((∀ b, c ≠ .alertFlags b ∧ c ≠ .clear b) →
      (s.flags.budget = true → t.flags.budget = true) ∧ (s.flags.poolLow = true → t.flags.poolLow = true) ∧
      (s.flags.poolEmpty = true → t.flags.poolEmpty = true) ∧ (s.flags.missed = true → t.flags.missed = true)) ∧
    ((∀ w, c ≠ .tick w) → c ≠ .budgetExpiry → t.alertSource = s.alertSource)

/-- In every state: a source is eligible exactly when BID is on, its queue is not empty and it is the source of no context; it is ACTIVE exactly when it is the source of the top context, PREEMPTED exactly when only of contexts below the top, and otherwise PENDING or IDLE as its queue is non-empty or empty. Where records are in range and the stack is sound: WINNER reads bit 7 for the grant condition, bit 6 for an eligible source and the winner's number; with SRC_SEL at i of 0 to 23, SRC_STATE reads 00h, 40h, 80h or C0h for IDLE, PENDING, ACTIVE or PREEMPTED plus the depth, SRC_BID the bid while i is eligible and else 0, SRC_CFG ADMIT, BID and DEPTH_BOOST in bits 0 to 2 and the policy code in bits 5:4, SRC_CLASS, SRC_QUOTA and SRC_MISSED their field, SRC_LINE of a line source the filter count in bits 7:4 and the mode code in bits 2:0, and 00h of another; at 24 to 255 the page reads 00h; STACK_DEPTH reads the depth; with CTX_SEL at a level below the depth the context page reads that context's source, held class, granted bid, taken count, budget state code, the low bytes of its grant stamp and remaining budget and, at the high addresses, those views' latches; at or beyond the depth 00h in every byte (at the high addresses the model's choice between rules: log 8). [derived: spec/02_the_source_table.md, section 2.1, spec/02_the_source_table.md, section 2.2, spec/02_the_source_table.md, section 4.1, spec/02_the_source_table.md, section 4.2, spec/02_the_source_table.md, section 4.3, spec/05_arbitration.md, section 7, spec/06_service_contexts_and_the_nesting_stack.md, section 2.3, spec/08_host_bus_and_register_window.md, section 3.1, spec/08_host_bus_and_register_window.md, section 6] -/
def Obligations.ReadsShowTheDerivedState : Prop :=
  ∀ s : State,
    (∀ i : Fin 24,
      (s.eligible i = true ↔ (s.src i).bid = true ∧ (s.src i).queue ≠ [] ∧ ∀ c ∈ s.stack, c.source ≠ i) ∧
      (s.sourceState i = .active ↔ ∃ c ∈ s.stack.head?, c.source = i) ∧
      (s.sourceState i = .preempted ↔ (∀ c ∈ s.stack.head?, c.source ≠ i) ∧ ∃ c ∈ s.stack, c.source = i) ∧
      (s.sourceState i = .pending ↔ (∀ c ∈ s.stack, c.source ≠ i) ∧ (s.src i).queue ≠ []) ∧
      (s.sourceState i = .idle ↔ (∀ c ∈ s.stack, c.source ≠ i) ∧ (s.src i).queue = [])) ∧
    (s.SourcesInRange → s.StackSound →
      (s.windowRead .winner).toNat = (if s.grantCondition then 128 else 0) + (match s.winner with | none => 0 | some w => 64 + w.val) ∧
      (∀ i : Fin 24, s.srcSel.toNat = i.val →
        (s.windowRead .srcState).toNat = (match s.sourceState i with
          | .idle => 0 | .pending => 64 | .active => 128 | .preempted => 192) + (s.src i).queue.length ∧
        (s.windowRead .srcBid).toNat = (if s.eligible i then s.bidOf i else 0) ∧
        (s.windowRead .srcCfg).toNat = (if (s.src i).admitOn then 1 else 0) + (if (s.src i).bid then 2 else 0) +
          (if (s.src i).depthBoost then 4 else 0) + (match (s.src i).policy with | .keepOldest => 0 | .keepNewest => 16 | .coalesce => 32) ∧
        (s.windowRead .srcClass).toNat = (s.src i).cls.toNat ∧ (s.windowRead .srcQuota).toNat = (s.src i).quota ∧
        (s.windowRead .srcMissed).toNat = (s.src i).missed ∧ (16 ≤ i.val → s.windowRead .srcLine = 0) ∧
        (∀ n : Fin 16, n.val = i.val → s.lines[n].filter ≤ 15 →
          (s.windowRead .srcLine).toNat = 16 * s.lines[n].filter + (match s.lines[n].mode with
            | .off => 0 | .rise => 1 | .fall => 2 | .both => 3 | .levelHigh => 4 | .levelLow => 5))) ∧
      (24 ≤ s.srcSel.toNat → ∀ r ∈ ([.srcCfg, .srcClass, .srcQuota, .srcLine, .srcState, .srcMissed, .srcBid] : List Reg),
        s.windowRead r = 0) ∧
      (s.windowRead .stackDepth).toNat = s.stack.length ∧
      (∀ c : Context, s.stack[s.ctxSel.toNat]? = some c →
        (s.windowRead .ctxSrc).toNat = c.source.val ∧ (s.windowRead .ctxClass).toNat = c.heldClass.toNat ∧
        (s.windowRead .ctxBid).toNat = c.grantedBid ∧ (s.windowRead .ctxTaken).toNat = c.taken ∧
        (s.windowRead .ctxBstate).toNat = (match c.bstate with | .unlimited => 0 | .running => 1 | .paused => 2 | .expired => 3) ∧
        (s.windowRead .ctxStampL).toNat = c.grantStamp.toNat % 256 ∧ (s.windowRead .ctxBudgetL).toNat = c.remaining.toNat % 256 ∧
        s.windowRead .ctxStampH = s.latched .ctxStamp ∧ s.windowRead .ctxBudgetH = s.latched .ctxBudget) ∧
      (s.stack.length ≤ s.ctxSel.toNat →
        ∀ r ∈ ([.ctxSrc, .ctxClass, .ctxBid, .ctxStampL, .ctxStampH, .ctxTaken, .ctxBudgetL, .ctxBudgetH, .ctxBstate] : List Reg),
          s.windowRead r = 0))

/-- In State.reset the source records are in range, the pool is balanced, credits are cleared, the stack is sound, lines, aging and CLK counts are in range, and the latch is sound. [derived: spec/08_host_bus_and_register_window.md, section 4] -/
def Obligations.ResetMeetsEveryRange : Prop :=
  State.reset.SourcesInRange ∧ State.reset.PoolBalanced ∧ State.reset.CreditsCleared ∧ State.reset.StackSound ∧
    State.reset.LinesInRange ∧ State.reset.AgingSound ∧ State.reset.ClockSound ∧ State.reset.LatchSound

/-- From every state (not only those a run reaches) whose source records are in range, every step that answers a next state leaves them in range: depth at most 16 and at most 1 for interval sources, quota 1 to 16, missed at most 255, credits at most 16, COALESCE exactly for interval sources, every queued record its own source's and of a kind that fits it. [derived: spec/01_event_records_the_slot_pool_and_admission.md, section 1.1, spec/01_event_records_the_slot_pool_and_admission.md, section 3, spec/01_event_records_the_slot_pool_and_admission.md, section 4.5, spec/02_the_source_table.md, section 1.1, spec/05_arbitration.md, section 1.1] -/
def Obligations.EveryStepKeepsSourceRecordsInRange : Prop :=
  ∀ s t : State, s.SourcesInRange → step s = .next t → t.SourcesInRange

/-- From every state with records in range and a balanced pool, every step leaves the free count plus the sum of the 24 depths at 64, so that the free count is 0 to 64; FREE_COUNT reads it; and State.reset is such a state. [derived: spec/01_event_records_the_slot_pool_and_admission.md, section 2.1] -/
def Obligations.EveryStepKeepsThePoolBalanced : Prop :=
  (∀ s t : State, s.SourcesInRange → s.PoolBalanced → step s = .next t →
      t.freeCount + t.totalDepth = 64 ∧ t.freeCount ≤ 64 ∧ (t.windowRead .freeCount).toNat = t.freeCount) ∧
    State.reset.SourcesInRange ∧ State.reset.PoolBalanced

/-- From every state in which every source with an empty queue, and every source of a context, has 0 credits, every step that answers a next state leaves it so. [derived: spec/05_arbitration.md, section 3.3] -/
def Obligations.EveryStepKeepsIdleAndServedSourcesWithoutCredits : Prop :=
  ∀ s t : State, s.CreditsCleared → step s = .next t → t.CreditsCleared

/-- From every state with records in range and a sound stack, every step leaves the stack sound: at most 6 contexts, no source twice, granted bid and taken at most 255, remaining 0 exactly when UNLIMITED or EXPIRED, the held class the granted bid divided by 32 or 0 in an EXPIRED context, the top not PAUSED and no context below it RUNNING. [derived: spec/06_service_contexts_and_the_nesting_stack.md, section 2.1, spec/06_service_contexts_and_the_nesting_stack.md, section 2.2, spec/07_service_budgets_and_alerts.md, section 1.2] -/
def Obligations.EveryStepKeepsTheStackSound : Prop :=
  ∀ s t : State, s.SourcesInRange → s.StackSound → step s = .next t → t.StackSound

/-- From every state in which run counts are at most 14, filter counts 1 to 15 and unseeded lines at 0, every step leaves them so; likewise that the aging count is 0 exactly with AGE_PERIOD 0 and never above it, and that the CLK count is below the tick period of the interval in progress. [derived: spec/03_line_inputs.md, section 1, spec/03_line_inputs.md, section 4.1, spec/05_arbitration.md, section 3.1, spec/04_timebase_interval_sources_and_posted_events.md, section 1.1] -/
def Obligations.EveryStepKeepsTheCountersInRange : Prop :=
  ∀ s t : State, step s = .next t →
    (s.LinesInRange → t.LinesInRange) ∧ (s.AgingSound → t.AgingSound) ∧ (s.ClockSound → t.ClockSound)

/-- From every state with records in range and a sound latch, every step leaves the latch sound: a kind exactly with EVENT, datum and stamp 0 without EVENT, source and missed 0 with NONE and NO_CONTEXT, missed at most 255. [derived: spec/06_service_contexts_and_the_nesting_stack.md, section 4.1] -/
def Obligations.EveryStepKeepsTheLatchSound : Prop :=
  ∀ s t : State, s.SourcesInRange → s.LatchSound → step s = .next t → t.LatchSound
end

