-- ==== Sys2Proof/Laws/State.lean ====
section
/-! SUPPORT. The record updates of the state, field by field: one lemma for each field of each update, true by rfl, so that no later proof
unfolds an update. `{ s with ... }` terms written out need none, because simp reduces them. -/

namespace Sys2Proof.Machine

/-! ### undriven -/

@[simp] theorem State.undriven_resetLow (s : State) : s.undriven.resetLow = s.resetLow := rfl
@[simp] theorem State.undriven_divider (s : State) : s.undriven.divider = s.divider := rfl
@[simp] theorem State.undriven_clkCount (s : State) : s.undriven.clkCount = s.clkCount := rfl
@[simp] theorem State.undriven_intervalDivider (s : State) : s.undriven.intervalDivider = s.intervalDivider := rfl
@[simp] theorem State.undriven_tbRun (s : State) : s.undriven.tbRun = s.tbRun := rfl
@[simp] theorem State.undriven_timestamp (s : State) : s.undriven.timestamp = s.timestamp := rfl
@[simp] theorem State.undriven_lines (s : State) : s.undriven.lines = s.lines := rfl
@[simp] theorem State.undriven_timers (s : State) : s.undriven.timers = s.timers := rfl
@[simp] theorem State.undriven_postSrc (s : State) : s.undriven.postSrc = s.postSrc := rfl
@[simp] theorem State.undriven_freeCount (s : State) : s.undriven.freeCount = s.freeCount := rfl
@[simp] theorem State.undriven_lowMark (s : State) : s.undriven.lowMark = s.lowMark := rfl
@[simp] theorem State.undriven_sources (s : State) : s.undriven.sources = s.sources := rfl
@[simp] theorem State.undriven_agePeriod (s : State) : s.undriven.agePeriod = s.agePeriod := rfl
@[simp] theorem State.undriven_agingCount (s : State) : s.undriven.agingCount = s.agingCount := rfl
@[simp] theorem State.undriven_floor (s : State) : s.undriven.floor = s.floor := rfl
@[simp] theorem State.undriven_stack (s : State) : s.undriven.stack = s.stack := rfl
@[simp] theorem State.undriven_latch (s : State) : s.undriven.latch = s.latch := rfl
@[simp] theorem State.undriven_budgets (s : State) : s.undriven.budgets = s.budgets := rfl
@[simp] theorem State.undriven_flags (s : State) : s.undriven.flags = s.flags := rfl
@[simp] theorem State.undriven_enables (s : State) : s.undriven.enables = s.enables := rfl
@[simp] theorem State.undriven_alertSource (s : State) : s.undriven.alertSource = s.alertSource := rfl
@[simp] theorem State.undriven_srcSel (s : State) : s.undriven.srcSel = s.srcSel := rfl
@[simp] theorem State.undriven_ctxSel (s : State) : s.undriven.ctxSel = s.ctxSel := rfl
@[simp] theorem State.undriven_timerSel (s : State) : s.undriven.timerSel = s.timerSel := rfl
@[simp] theorem State.undriven_budgetSel (s : State) : s.undriven.budgetSel = s.budgetSel := rfl
@[simp] theorem State.undriven_cmdStatus (s : State) : s.undriven.cmdStatus = s.cmdStatus := rfl
@[simp] theorem State.undriven_readLatch (s : State) : s.undriven.readLatch = s.readLatch := rfl
@[simp] theorem State.undriven_holding (s : State) : s.undriven.holding = s.holding := rfl
@[simp] theorem State.undriven_draws (s : State) : s.undriven.draws = s.draws := rfl
@[simp] theorem State.undriven_pending (s : State) : s.undriven.pending = s.pending := rfl
@[simp] theorem State.undriven_dataOut (s : State) :
    s.undriven.dataOut = none := rfl
@[simp] theorem State.undriven_src (s : State) (j : Fin 24) : s.undriven.src j = s.src j := rfl
@[simp] theorem State.undriven_settings (s : State) : s.undriven.settings = s.settings := rfl

/-! ### answer -/

@[simp] theorem State.answer_resetLow (s : State) (a : Answer) : (s.answer a).resetLow = s.resetLow := rfl
@[simp] theorem State.answer_dataOut (s : State) (a : Answer) : (s.answer a).dataOut = s.dataOut := rfl
@[simp] theorem State.answer_divider (s : State) (a : Answer) : (s.answer a).divider = s.divider := rfl
@[simp] theorem State.answer_clkCount (s : State) (a : Answer) : (s.answer a).clkCount = s.clkCount := rfl
@[simp] theorem State.answer_intervalDivider (s : State) (a : Answer) : (s.answer a).intervalDivider = s.intervalDivider := rfl
@[simp] theorem State.answer_tbRun (s : State) (a : Answer) : (s.answer a).tbRun = s.tbRun := rfl
@[simp] theorem State.answer_timestamp (s : State) (a : Answer) : (s.answer a).timestamp = s.timestamp := rfl
@[simp] theorem State.answer_lines (s : State) (a : Answer) : (s.answer a).lines = s.lines := rfl
@[simp] theorem State.answer_timers (s : State) (a : Answer) : (s.answer a).timers = s.timers := rfl
@[simp] theorem State.answer_postSrc (s : State) (a : Answer) : (s.answer a).postSrc = s.postSrc := rfl
@[simp] theorem State.answer_freeCount (s : State) (a : Answer) : (s.answer a).freeCount = s.freeCount := rfl
@[simp] theorem State.answer_lowMark (s : State) (a : Answer) : (s.answer a).lowMark = s.lowMark := rfl
@[simp] theorem State.answer_sources (s : State) (a : Answer) : (s.answer a).sources = s.sources := rfl
@[simp] theorem State.answer_agePeriod (s : State) (a : Answer) : (s.answer a).agePeriod = s.agePeriod := rfl
@[simp] theorem State.answer_agingCount (s : State) (a : Answer) : (s.answer a).agingCount = s.agingCount := rfl
@[simp] theorem State.answer_floor (s : State) (a : Answer) : (s.answer a).floor = s.floor := rfl
@[simp] theorem State.answer_stack (s : State) (a : Answer) : (s.answer a).stack = s.stack := rfl
@[simp] theorem State.answer_latch (s : State) (a : Answer) : (s.answer a).latch = s.latch := rfl
@[simp] theorem State.answer_budgets (s : State) (a : Answer) : (s.answer a).budgets = s.budgets := rfl
@[simp] theorem State.answer_flags (s : State) (a : Answer) : (s.answer a).flags = s.flags := rfl
@[simp] theorem State.answer_enables (s : State) (a : Answer) : (s.answer a).enables = s.enables := rfl
@[simp] theorem State.answer_alertSource (s : State) (a : Answer) : (s.answer a).alertSource = s.alertSource := rfl
@[simp] theorem State.answer_srcSel (s : State) (a : Answer) : (s.answer a).srcSel = s.srcSel := rfl
@[simp] theorem State.answer_ctxSel (s : State) (a : Answer) : (s.answer a).ctxSel = s.ctxSel := rfl
@[simp] theorem State.answer_timerSel (s : State) (a : Answer) : (s.answer a).timerSel = s.timerSel := rfl
@[simp] theorem State.answer_budgetSel (s : State) (a : Answer) : (s.answer a).budgetSel = s.budgetSel := rfl
@[simp] theorem State.answer_readLatch (s : State) (a : Answer) : (s.answer a).readLatch = s.readLatch := rfl
@[simp] theorem State.answer_holding (s : State) (a : Answer) : (s.answer a).holding = s.holding := rfl
@[simp] theorem State.answer_draws (s : State) (a : Answer) : (s.answer a).draws = s.draws := rfl
@[simp] theorem State.answer_pending (s : State) (a : Answer) : (s.answer a).pending = s.pending := rfl
@[simp] theorem State.answer_cmdStatus (s : State) (a : Answer) :
    (s.answer a).cmdStatus = a := rfl
@[simp] theorem State.answer_src (s : State) (a : Answer) (j : Fin 24) : (s.answer a).src j = s.src j := rfl

/-! ### setSrc -/

@[simp] theorem State.setSrc_resetLow (s : State) (i : Fin 24) (q : Source) : (s.setSrc i q).resetLow = s.resetLow := rfl
@[simp] theorem State.setSrc_dataOut (s : State) (i : Fin 24) (q : Source) : (s.setSrc i q).dataOut = s.dataOut := rfl
@[simp] theorem State.setSrc_divider (s : State) (i : Fin 24) (q : Source) : (s.setSrc i q).divider = s.divider := rfl
@[simp] theorem State.setSrc_clkCount (s : State) (i : Fin 24) (q : Source) : (s.setSrc i q).clkCount = s.clkCount := rfl
@[simp] theorem State.setSrc_intervalDivider (s : State) (i : Fin 24) (q : Source) : (s.setSrc i q).intervalDivider = s.intervalDivider :=
  rfl
@[simp] theorem State.setSrc_tbRun (s : State) (i : Fin 24) (q : Source) : (s.setSrc i q).tbRun = s.tbRun := rfl
@[simp] theorem State.setSrc_timestamp (s : State) (i : Fin 24) (q : Source) : (s.setSrc i q).timestamp = s.timestamp := rfl
@[simp] theorem State.setSrc_lines (s : State) (i : Fin 24) (q : Source) : (s.setSrc i q).lines = s.lines := rfl
@[simp] theorem State.setSrc_timers (s : State) (i : Fin 24) (q : Source) : (s.setSrc i q).timers = s.timers := rfl
@[simp] theorem State.setSrc_postSrc (s : State) (i : Fin 24) (q : Source) : (s.setSrc i q).postSrc = s.postSrc := rfl
@[simp] theorem State.setSrc_freeCount (s : State) (i : Fin 24) (q : Source) : (s.setSrc i q).freeCount = s.freeCount := rfl
@[simp] theorem State.setSrc_lowMark (s : State) (i : Fin 24) (q : Source) : (s.setSrc i q).lowMark = s.lowMark := rfl
@[simp] theorem State.setSrc_agePeriod (s : State) (i : Fin 24) (q : Source) : (s.setSrc i q).agePeriod = s.agePeriod := rfl
@[simp] theorem State.setSrc_agingCount (s : State) (i : Fin 24) (q : Source) : (s.setSrc i q).agingCount = s.agingCount := rfl
@[simp] theorem State.setSrc_floor (s : State) (i : Fin 24) (q : Source) : (s.setSrc i q).floor = s.floor := rfl
@[simp] theorem State.setSrc_stack (s : State) (i : Fin 24) (q : Source) : (s.setSrc i q).stack = s.stack := rfl
@[simp] theorem State.setSrc_latch (s : State) (i : Fin 24) (q : Source) : (s.setSrc i q).latch = s.latch := rfl
@[simp] theorem State.setSrc_budgets (s : State) (i : Fin 24) (q : Source) : (s.setSrc i q).budgets = s.budgets := rfl
@[simp] theorem State.setSrc_flags (s : State) (i : Fin 24) (q : Source) : (s.setSrc i q).flags = s.flags := rfl
@[simp] theorem State.setSrc_enables (s : State) (i : Fin 24) (q : Source) : (s.setSrc i q).enables = s.enables := rfl
@[simp] theorem State.setSrc_alertSource (s : State) (i : Fin 24) (q : Source) : (s.setSrc i q).alertSource = s.alertSource := rfl
@[simp] theorem State.setSrc_srcSel (s : State) (i : Fin 24) (q : Source) : (s.setSrc i q).srcSel = s.srcSel := rfl
@[simp] theorem State.setSrc_ctxSel (s : State) (i : Fin 24) (q : Source) : (s.setSrc i q).ctxSel = s.ctxSel := rfl
@[simp] theorem State.setSrc_timerSel (s : State) (i : Fin 24) (q : Source) : (s.setSrc i q).timerSel = s.timerSel := rfl
@[simp] theorem State.setSrc_budgetSel (s : State) (i : Fin 24) (q : Source) : (s.setSrc i q).budgetSel = s.budgetSel := rfl
@[simp] theorem State.setSrc_cmdStatus (s : State) (i : Fin 24) (q : Source) : (s.setSrc i q).cmdStatus = s.cmdStatus := rfl
@[simp] theorem State.setSrc_readLatch (s : State) (i : Fin 24) (q : Source) : (s.setSrc i q).readLatch = s.readLatch := rfl
@[simp] theorem State.setSrc_holding (s : State) (i : Fin 24) (q : Source) : (s.setSrc i q).holding = s.holding := rfl
@[simp] theorem State.setSrc_draws (s : State) (i : Fin 24) (q : Source) : (s.setSrc i q).draws = s.draws := rfl
@[simp] theorem State.setSrc_pending (s : State) (i : Fin 24) (q : Source) : (s.setSrc i q).pending = s.pending := rfl
@[simp] theorem State.setSrc_sources (s : State) (i : Fin 24) (q : Source) :
    (s.setSrc i q).sources = s.sources.set i q := rfl
@[simp] theorem State.setSrc_settings (s : State) (i : Fin 24) (q : Source) : (s.setSrc i q).settings = s.settings := rfl

/-! ### release -/

@[simp] theorem State.release_resetLow (s : State) (n : Nat) : (s.release n).resetLow = s.resetLow := rfl
@[simp] theorem State.release_dataOut (s : State) (n : Nat) : (s.release n).dataOut = s.dataOut := rfl
@[simp] theorem State.release_divider (s : State) (n : Nat) : (s.release n).divider = s.divider := rfl
@[simp] theorem State.release_clkCount (s : State) (n : Nat) : (s.release n).clkCount = s.clkCount := rfl
@[simp] theorem State.release_intervalDivider (s : State) (n : Nat) : (s.release n).intervalDivider = s.intervalDivider := rfl
@[simp] theorem State.release_tbRun (s : State) (n : Nat) : (s.release n).tbRun = s.tbRun := rfl
@[simp] theorem State.release_timestamp (s : State) (n : Nat) : (s.release n).timestamp = s.timestamp := rfl
@[simp] theorem State.release_lines (s : State) (n : Nat) : (s.release n).lines = s.lines := rfl
@[simp] theorem State.release_timers (s : State) (n : Nat) : (s.release n).timers = s.timers := rfl
@[simp] theorem State.release_postSrc (s : State) (n : Nat) : (s.release n).postSrc = s.postSrc := rfl
@[simp] theorem State.release_lowMark (s : State) (n : Nat) : (s.release n).lowMark = s.lowMark := rfl
@[simp] theorem State.release_sources (s : State) (n : Nat) : (s.release n).sources = s.sources := rfl
@[simp] theorem State.release_agePeriod (s : State) (n : Nat) : (s.release n).agePeriod = s.agePeriod := rfl
@[simp] theorem State.release_agingCount (s : State) (n : Nat) : (s.release n).agingCount = s.agingCount := rfl
@[simp] theorem State.release_floor (s : State) (n : Nat) : (s.release n).floor = s.floor := rfl
@[simp] theorem State.release_stack (s : State) (n : Nat) : (s.release n).stack = s.stack := rfl
@[simp] theorem State.release_latch (s : State) (n : Nat) : (s.release n).latch = s.latch := rfl
@[simp] theorem State.release_budgets (s : State) (n : Nat) : (s.release n).budgets = s.budgets := rfl
@[simp] theorem State.release_flags (s : State) (n : Nat) : (s.release n).flags = s.flags := rfl
@[simp] theorem State.release_enables (s : State) (n : Nat) : (s.release n).enables = s.enables := rfl
@[simp] theorem State.release_alertSource (s : State) (n : Nat) : (s.release n).alertSource = s.alertSource := rfl
@[simp] theorem State.release_srcSel (s : State) (n : Nat) : (s.release n).srcSel = s.srcSel := rfl
@[simp] theorem State.release_ctxSel (s : State) (n : Nat) : (s.release n).ctxSel = s.ctxSel := rfl
@[simp] theorem State.release_timerSel (s : State) (n : Nat) : (s.release n).timerSel = s.timerSel := rfl
@[simp] theorem State.release_budgetSel (s : State) (n : Nat) : (s.release n).budgetSel = s.budgetSel := rfl
@[simp] theorem State.release_cmdStatus (s : State) (n : Nat) : (s.release n).cmdStatus = s.cmdStatus := rfl
@[simp] theorem State.release_readLatch (s : State) (n : Nat) : (s.release n).readLatch = s.readLatch := rfl
@[simp] theorem State.release_holding (s : State) (n : Nat) : (s.release n).holding = s.holding := rfl
@[simp] theorem State.release_draws (s : State) (n : Nat) : (s.release n).draws = s.draws := rfl
@[simp] theorem State.release_pending (s : State) (n : Nat) : (s.release n).pending = s.pending := rfl
@[simp] theorem State.release_freeCount (s : State) (n : Nat) :
    (s.release n).freeCount = s.freeCount + n := rfl
@[simp] theorem State.release_src (s : State) (n : Nat) (j : Fin 24) : (s.release n).src j = s.src j := rfl
@[simp] theorem State.release_settings (s : State) (n : Nat) : (s.release n).settings = s.settings := rfl

/-! ### setBudgetFlag -/

@[simp] theorem State.setBudgetFlag_resetLow (s : State) : s.setBudgetFlag.resetLow = s.resetLow := rfl
@[simp] theorem State.setBudgetFlag_dataOut (s : State) : s.setBudgetFlag.dataOut = s.dataOut := rfl
@[simp] theorem State.setBudgetFlag_divider (s : State) : s.setBudgetFlag.divider = s.divider := rfl
@[simp] theorem State.setBudgetFlag_clkCount (s : State) : s.setBudgetFlag.clkCount = s.clkCount := rfl
@[simp] theorem State.setBudgetFlag_intervalDivider (s : State) : s.setBudgetFlag.intervalDivider = s.intervalDivider := rfl
@[simp] theorem State.setBudgetFlag_tbRun (s : State) : s.setBudgetFlag.tbRun = s.tbRun := rfl
@[simp] theorem State.setBudgetFlag_timestamp (s : State) : s.setBudgetFlag.timestamp = s.timestamp := rfl
@[simp] theorem State.setBudgetFlag_lines (s : State) : s.setBudgetFlag.lines = s.lines := rfl
@[simp] theorem State.setBudgetFlag_timers (s : State) : s.setBudgetFlag.timers = s.timers := rfl
@[simp] theorem State.setBudgetFlag_postSrc (s : State) : s.setBudgetFlag.postSrc = s.postSrc := rfl
@[simp] theorem State.setBudgetFlag_freeCount (s : State) : s.setBudgetFlag.freeCount = s.freeCount := rfl
@[simp] theorem State.setBudgetFlag_lowMark (s : State) : s.setBudgetFlag.lowMark = s.lowMark := rfl
@[simp] theorem State.setBudgetFlag_sources (s : State) : s.setBudgetFlag.sources = s.sources := rfl
@[simp] theorem State.setBudgetFlag_agePeriod (s : State) : s.setBudgetFlag.agePeriod = s.agePeriod := rfl
@[simp] theorem State.setBudgetFlag_agingCount (s : State) : s.setBudgetFlag.agingCount = s.agingCount := rfl
@[simp] theorem State.setBudgetFlag_floor (s : State) : s.setBudgetFlag.floor = s.floor := rfl
@[simp] theorem State.setBudgetFlag_stack (s : State) : s.setBudgetFlag.stack = s.stack := rfl
@[simp] theorem State.setBudgetFlag_latch (s : State) : s.setBudgetFlag.latch = s.latch := rfl
@[simp] theorem State.setBudgetFlag_budgets (s : State) : s.setBudgetFlag.budgets = s.budgets := rfl
@[simp] theorem State.setBudgetFlag_enables (s : State) : s.setBudgetFlag.enables = s.enables := rfl
@[simp] theorem State.setBudgetFlag_alertSource (s : State) : s.setBudgetFlag.alertSource = s.alertSource := rfl
@[simp] theorem State.setBudgetFlag_srcSel (s : State) : s.setBudgetFlag.srcSel = s.srcSel := rfl
@[simp] theorem State.setBudgetFlag_ctxSel (s : State) : s.setBudgetFlag.ctxSel = s.ctxSel := rfl
@[simp] theorem State.setBudgetFlag_timerSel (s : State) : s.setBudgetFlag.timerSel = s.timerSel := rfl
@[simp] theorem State.setBudgetFlag_budgetSel (s : State) : s.setBudgetFlag.budgetSel = s.budgetSel := rfl
@[simp] theorem State.setBudgetFlag_cmdStatus (s : State) : s.setBudgetFlag.cmdStatus = s.cmdStatus := rfl
@[simp] theorem State.setBudgetFlag_readLatch (s : State) : s.setBudgetFlag.readLatch = s.readLatch := rfl
@[simp] theorem State.setBudgetFlag_holding (s : State) : s.setBudgetFlag.holding = s.holding := rfl
@[simp] theorem State.setBudgetFlag_draws (s : State) : s.setBudgetFlag.draws = s.draws := rfl
@[simp] theorem State.setBudgetFlag_pending (s : State) : s.setBudgetFlag.pending = s.pending := rfl
@[simp] theorem State.setBudgetFlag_flags (s : State) :
    s.setBudgetFlag.flags = { s.flags with budget := true } := rfl
@[simp] theorem State.setBudgetFlag_src (s : State) (j : Fin 24) : s.setBudgetFlag.src j = s.src j := rfl
@[simp] theorem State.setBudgetFlag_settings (s : State) : s.setBudgetFlag.settings = s.settings := rfl

/-! ### setPoolLow -/

@[simp] theorem State.setPoolLow_resetLow (s : State) : s.setPoolLow.resetLow = s.resetLow := rfl
@[simp] theorem State.setPoolLow_dataOut (s : State) : s.setPoolLow.dataOut = s.dataOut := rfl
@[simp] theorem State.setPoolLow_divider (s : State) : s.setPoolLow.divider = s.divider := rfl
@[simp] theorem State.setPoolLow_clkCount (s : State) : s.setPoolLow.clkCount = s.clkCount := rfl
@[simp] theorem State.setPoolLow_intervalDivider (s : State) : s.setPoolLow.intervalDivider = s.intervalDivider := rfl
@[simp] theorem State.setPoolLow_tbRun (s : State) : s.setPoolLow.tbRun = s.tbRun := rfl
@[simp] theorem State.setPoolLow_timestamp (s : State) : s.setPoolLow.timestamp = s.timestamp := rfl
@[simp] theorem State.setPoolLow_lines (s : State) : s.setPoolLow.lines = s.lines := rfl
@[simp] theorem State.setPoolLow_timers (s : State) : s.setPoolLow.timers = s.timers := rfl
@[simp] theorem State.setPoolLow_postSrc (s : State) : s.setPoolLow.postSrc = s.postSrc := rfl
@[simp] theorem State.setPoolLow_freeCount (s : State) : s.setPoolLow.freeCount = s.freeCount := rfl
@[simp] theorem State.setPoolLow_lowMark (s : State) : s.setPoolLow.lowMark = s.lowMark := rfl
@[simp] theorem State.setPoolLow_sources (s : State) : s.setPoolLow.sources = s.sources := rfl
@[simp] theorem State.setPoolLow_agePeriod (s : State) : s.setPoolLow.agePeriod = s.agePeriod := rfl
@[simp] theorem State.setPoolLow_agingCount (s : State) : s.setPoolLow.agingCount = s.agingCount := rfl
@[simp] theorem State.setPoolLow_floor (s : State) : s.setPoolLow.floor = s.floor := rfl
@[simp] theorem State.setPoolLow_stack (s : State) : s.setPoolLow.stack = s.stack := rfl
@[simp] theorem State.setPoolLow_latch (s : State) : s.setPoolLow.latch = s.latch := rfl
@[simp] theorem State.setPoolLow_budgets (s : State) : s.setPoolLow.budgets = s.budgets := rfl
@[simp] theorem State.setPoolLow_enables (s : State) : s.setPoolLow.enables = s.enables := rfl
@[simp] theorem State.setPoolLow_alertSource (s : State) : s.setPoolLow.alertSource = s.alertSource := rfl
@[simp] theorem State.setPoolLow_srcSel (s : State) : s.setPoolLow.srcSel = s.srcSel := rfl
@[simp] theorem State.setPoolLow_ctxSel (s : State) : s.setPoolLow.ctxSel = s.ctxSel := rfl
@[simp] theorem State.setPoolLow_timerSel (s : State) : s.setPoolLow.timerSel = s.timerSel := rfl
@[simp] theorem State.setPoolLow_budgetSel (s : State) : s.setPoolLow.budgetSel = s.budgetSel := rfl
@[simp] theorem State.setPoolLow_cmdStatus (s : State) : s.setPoolLow.cmdStatus = s.cmdStatus := rfl
@[simp] theorem State.setPoolLow_readLatch (s : State) : s.setPoolLow.readLatch = s.readLatch := rfl
@[simp] theorem State.setPoolLow_holding (s : State) : s.setPoolLow.holding = s.holding := rfl
@[simp] theorem State.setPoolLow_draws (s : State) : s.setPoolLow.draws = s.draws := rfl
@[simp] theorem State.setPoolLow_pending (s : State) : s.setPoolLow.pending = s.pending := rfl
@[simp] theorem State.setPoolLow_flags (s : State) :
    s.setPoolLow.flags = { s.flags with poolLow := true } := rfl
@[simp] theorem State.setPoolLow_src (s : State) (j : Fin 24) : s.setPoolLow.src j = s.src j := rfl
@[simp] theorem State.setPoolLow_settings (s : State) : s.setPoolLow.settings = s.settings := rfl

/-! ### setPoolEmpty -/

@[simp] theorem State.setPoolEmpty_resetLow (s : State) : s.setPoolEmpty.resetLow = s.resetLow := rfl
@[simp] theorem State.setPoolEmpty_dataOut (s : State) : s.setPoolEmpty.dataOut = s.dataOut := rfl
@[simp] theorem State.setPoolEmpty_divider (s : State) : s.setPoolEmpty.divider = s.divider := rfl
@[simp] theorem State.setPoolEmpty_clkCount (s : State) : s.setPoolEmpty.clkCount = s.clkCount := rfl
@[simp] theorem State.setPoolEmpty_intervalDivider (s : State) : s.setPoolEmpty.intervalDivider = s.intervalDivider := rfl
@[simp] theorem State.setPoolEmpty_tbRun (s : State) : s.setPoolEmpty.tbRun = s.tbRun := rfl
@[simp] theorem State.setPoolEmpty_timestamp (s : State) : s.setPoolEmpty.timestamp = s.timestamp := rfl
@[simp] theorem State.setPoolEmpty_lines (s : State) : s.setPoolEmpty.lines = s.lines := rfl
@[simp] theorem State.setPoolEmpty_timers (s : State) : s.setPoolEmpty.timers = s.timers := rfl
@[simp] theorem State.setPoolEmpty_postSrc (s : State) : s.setPoolEmpty.postSrc = s.postSrc := rfl
@[simp] theorem State.setPoolEmpty_freeCount (s : State) : s.setPoolEmpty.freeCount = s.freeCount := rfl
@[simp] theorem State.setPoolEmpty_lowMark (s : State) : s.setPoolEmpty.lowMark = s.lowMark := rfl
@[simp] theorem State.setPoolEmpty_sources (s : State) : s.setPoolEmpty.sources = s.sources := rfl
@[simp] theorem State.setPoolEmpty_agePeriod (s : State) : s.setPoolEmpty.agePeriod = s.agePeriod := rfl
@[simp] theorem State.setPoolEmpty_agingCount (s : State) : s.setPoolEmpty.agingCount = s.agingCount := rfl
@[simp] theorem State.setPoolEmpty_floor (s : State) : s.setPoolEmpty.floor = s.floor := rfl
@[simp] theorem State.setPoolEmpty_stack (s : State) : s.setPoolEmpty.stack = s.stack := rfl
@[simp] theorem State.setPoolEmpty_latch (s : State) : s.setPoolEmpty.latch = s.latch := rfl
@[simp] theorem State.setPoolEmpty_budgets (s : State) : s.setPoolEmpty.budgets = s.budgets := rfl
@[simp] theorem State.setPoolEmpty_enables (s : State) : s.setPoolEmpty.enables = s.enables := rfl
@[simp] theorem State.setPoolEmpty_alertSource (s : State) : s.setPoolEmpty.alertSource = s.alertSource := rfl
@[simp] theorem State.setPoolEmpty_srcSel (s : State) : s.setPoolEmpty.srcSel = s.srcSel := rfl
@[simp] theorem State.setPoolEmpty_ctxSel (s : State) : s.setPoolEmpty.ctxSel = s.ctxSel := rfl
@[simp] theorem State.setPoolEmpty_timerSel (s : State) : s.setPoolEmpty.timerSel = s.timerSel := rfl
@[simp] theorem State.setPoolEmpty_budgetSel (s : State) : s.setPoolEmpty.budgetSel = s.budgetSel := rfl
@[simp] theorem State.setPoolEmpty_cmdStatus (s : State) : s.setPoolEmpty.cmdStatus = s.cmdStatus := rfl
@[simp] theorem State.setPoolEmpty_readLatch (s : State) : s.setPoolEmpty.readLatch = s.readLatch := rfl
@[simp] theorem State.setPoolEmpty_holding (s : State) : s.setPoolEmpty.holding = s.holding := rfl
@[simp] theorem State.setPoolEmpty_draws (s : State) : s.setPoolEmpty.draws = s.draws := rfl
@[simp] theorem State.setPoolEmpty_pending (s : State) : s.setPoolEmpty.pending = s.pending := rfl
@[simp] theorem State.setPoolEmpty_flags (s : State) :
    s.setPoolEmpty.flags = { s.flags with poolEmpty := true } := rfl
@[simp] theorem State.setPoolEmpty_src (s : State) (j : Fin 24) : s.setPoolEmpty.src j = s.src j := rfl
@[simp] theorem State.setPoolEmpty_settings (s : State) : s.setPoolEmpty.settings = s.settings := rfl

/-! ### setMissed -/

@[simp] theorem State.setMissed_resetLow (s : State) : s.setMissed.resetLow = s.resetLow := rfl
@[simp] theorem State.setMissed_dataOut (s : State) : s.setMissed.dataOut = s.dataOut := rfl
@[simp] theorem State.setMissed_divider (s : State) : s.setMissed.divider = s.divider := rfl
@[simp] theorem State.setMissed_clkCount (s : State) : s.setMissed.clkCount = s.clkCount := rfl
@[simp] theorem State.setMissed_intervalDivider (s : State) : s.setMissed.intervalDivider = s.intervalDivider := rfl
@[simp] theorem State.setMissed_tbRun (s : State) : s.setMissed.tbRun = s.tbRun := rfl
@[simp] theorem State.setMissed_timestamp (s : State) : s.setMissed.timestamp = s.timestamp := rfl
@[simp] theorem State.setMissed_lines (s : State) : s.setMissed.lines = s.lines := rfl
@[simp] theorem State.setMissed_timers (s : State) : s.setMissed.timers = s.timers := rfl
@[simp] theorem State.setMissed_postSrc (s : State) : s.setMissed.postSrc = s.postSrc := rfl
@[simp] theorem State.setMissed_freeCount (s : State) : s.setMissed.freeCount = s.freeCount := rfl
@[simp] theorem State.setMissed_lowMark (s : State) : s.setMissed.lowMark = s.lowMark := rfl
@[simp] theorem State.setMissed_sources (s : State) : s.setMissed.sources = s.sources := rfl
@[simp] theorem State.setMissed_agePeriod (s : State) : s.setMissed.agePeriod = s.agePeriod := rfl
@[simp] theorem State.setMissed_agingCount (s : State) : s.setMissed.agingCount = s.agingCount := rfl
@[simp] theorem State.setMissed_floor (s : State) : s.setMissed.floor = s.floor := rfl
@[simp] theorem State.setMissed_stack (s : State) : s.setMissed.stack = s.stack := rfl
@[simp] theorem State.setMissed_latch (s : State) : s.setMissed.latch = s.latch := rfl
@[simp] theorem State.setMissed_budgets (s : State) : s.setMissed.budgets = s.budgets := rfl
@[simp] theorem State.setMissed_enables (s : State) : s.setMissed.enables = s.enables := rfl
@[simp] theorem State.setMissed_alertSource (s : State) : s.setMissed.alertSource = s.alertSource := rfl
@[simp] theorem State.setMissed_srcSel (s : State) : s.setMissed.srcSel = s.srcSel := rfl
@[simp] theorem State.setMissed_ctxSel (s : State) : s.setMissed.ctxSel = s.ctxSel := rfl
@[simp] theorem State.setMissed_timerSel (s : State) : s.setMissed.timerSel = s.timerSel := rfl
@[simp] theorem State.setMissed_budgetSel (s : State) : s.setMissed.budgetSel = s.budgetSel := rfl
@[simp] theorem State.setMissed_cmdStatus (s : State) : s.setMissed.cmdStatus = s.cmdStatus := rfl
@[simp] theorem State.setMissed_readLatch (s : State) : s.setMissed.readLatch = s.readLatch := rfl
@[simp] theorem State.setMissed_holding (s : State) : s.setMissed.holding = s.holding := rfl
@[simp] theorem State.setMissed_draws (s : State) : s.setMissed.draws = s.draws := rfl
@[simp] theorem State.setMissed_pending (s : State) : s.setMissed.pending = s.pending := rfl
@[simp] theorem State.setMissed_flags (s : State) :
    s.setMissed.flags = { s.flags with missed := true } := rfl
@[simp] theorem State.setMissed_src (s : State) (j : Fin 24) : s.setMissed.src j = s.src j := rfl
@[simp] theorem State.setMissed_settings (s : State) : s.setMissed.settings = s.settings := rfl

/-! ### append -/

@[simp] theorem State.append_resetLow (s : State) (r : Record) : (s.append r).resetLow = s.resetLow := rfl
@[simp] theorem State.append_dataOut (s : State) (r : Record) : (s.append r).dataOut = s.dataOut := rfl
@[simp] theorem State.append_divider (s : State) (r : Record) : (s.append r).divider = s.divider := rfl
@[simp] theorem State.append_clkCount (s : State) (r : Record) : (s.append r).clkCount = s.clkCount := rfl
@[simp] theorem State.append_intervalDivider (s : State) (r : Record) : (s.append r).intervalDivider = s.intervalDivider := rfl
@[simp] theorem State.append_tbRun (s : State) (r : Record) : (s.append r).tbRun = s.tbRun := rfl
@[simp] theorem State.append_timestamp (s : State) (r : Record) : (s.append r).timestamp = s.timestamp := rfl
@[simp] theorem State.append_lines (s : State) (r : Record) : (s.append r).lines = s.lines := rfl
@[simp] theorem State.append_timers (s : State) (r : Record) : (s.append r).timers = s.timers := rfl
@[simp] theorem State.append_postSrc (s : State) (r : Record) : (s.append r).postSrc = s.postSrc := rfl
@[simp] theorem State.append_freeCount (s : State) (r : Record) : (s.append r).freeCount = s.freeCount := rfl
@[simp] theorem State.append_lowMark (s : State) (r : Record) : (s.append r).lowMark = s.lowMark := rfl
@[simp] theorem State.append_agePeriod (s : State) (r : Record) : (s.append r).agePeriod = s.agePeriod := rfl
@[simp] theorem State.append_agingCount (s : State) (r : Record) : (s.append r).agingCount = s.agingCount := rfl
@[simp] theorem State.append_floor (s : State) (r : Record) : (s.append r).floor = s.floor := rfl
@[simp] theorem State.append_stack (s : State) (r : Record) : (s.append r).stack = s.stack := rfl
@[simp] theorem State.append_latch (s : State) (r : Record) : (s.append r).latch = s.latch := rfl
@[simp] theorem State.append_budgets (s : State) (r : Record) : (s.append r).budgets = s.budgets := rfl
@[simp] theorem State.append_flags (s : State) (r : Record) : (s.append r).flags = s.flags := rfl
@[simp] theorem State.append_enables (s : State) (r : Record) : (s.append r).enables = s.enables := rfl
@[simp] theorem State.append_alertSource (s : State) (r : Record) : (s.append r).alertSource = s.alertSource := rfl
@[simp] theorem State.append_srcSel (s : State) (r : Record) : (s.append r).srcSel = s.srcSel := rfl
@[simp] theorem State.append_ctxSel (s : State) (r : Record) : (s.append r).ctxSel = s.ctxSel := rfl
@[simp] theorem State.append_timerSel (s : State) (r : Record) : (s.append r).timerSel = s.timerSel := rfl
@[simp] theorem State.append_budgetSel (s : State) (r : Record) : (s.append r).budgetSel = s.budgetSel := rfl
@[simp] theorem State.append_cmdStatus (s : State) (r : Record) : (s.append r).cmdStatus = s.cmdStatus := rfl
@[simp] theorem State.append_readLatch (s : State) (r : Record) : (s.append r).readLatch = s.readLatch := rfl
@[simp] theorem State.append_holding (s : State) (r : Record) : (s.append r).holding = s.holding := rfl
@[simp] theorem State.append_draws (s : State) (r : Record) : (s.append r).draws = s.draws := rfl
@[simp] theorem State.append_pending (s : State) (r : Record) : (s.append r).pending = s.pending := rfl
@[simp] theorem State.append_sources (s : State) (r : Record) :
    (s.append r).sources = s.sources.set r.source { s.src r.source with queue := (s.src r.source).queue ++ [r] } := rfl
@[simp] theorem State.append_settings (s : State) (r : Record) : (s.append r).settings = s.settings := rfl

/-! ### lose -/

@[simp] theorem State.lose_resetLow (s : State) (i : Fin 24) : (s.lose i).resetLow = s.resetLow := rfl
@[simp] theorem State.lose_dataOut (s : State) (i : Fin 24) : (s.lose i).dataOut = s.dataOut := rfl
@[simp] theorem State.lose_divider (s : State) (i : Fin 24) : (s.lose i).divider = s.divider := rfl
@[simp] theorem State.lose_clkCount (s : State) (i : Fin 24) : (s.lose i).clkCount = s.clkCount := rfl
@[simp] theorem State.lose_intervalDivider (s : State) (i : Fin 24) : (s.lose i).intervalDivider = s.intervalDivider := rfl
@[simp] theorem State.lose_tbRun (s : State) (i : Fin 24) : (s.lose i).tbRun = s.tbRun := rfl
@[simp] theorem State.lose_timestamp (s : State) (i : Fin 24) : (s.lose i).timestamp = s.timestamp := rfl
@[simp] theorem State.lose_lines (s : State) (i : Fin 24) : (s.lose i).lines = s.lines := rfl
@[simp] theorem State.lose_timers (s : State) (i : Fin 24) : (s.lose i).timers = s.timers := rfl
@[simp] theorem State.lose_postSrc (s : State) (i : Fin 24) : (s.lose i).postSrc = s.postSrc := rfl
@[simp] theorem State.lose_freeCount (s : State) (i : Fin 24) : (s.lose i).freeCount = s.freeCount := rfl
@[simp] theorem State.lose_lowMark (s : State) (i : Fin 24) : (s.lose i).lowMark = s.lowMark := rfl
@[simp] theorem State.lose_agePeriod (s : State) (i : Fin 24) : (s.lose i).agePeriod = s.agePeriod := rfl
@[simp] theorem State.lose_agingCount (s : State) (i : Fin 24) : (s.lose i).agingCount = s.agingCount := rfl
@[simp] theorem State.lose_floor (s : State) (i : Fin 24) : (s.lose i).floor = s.floor := rfl
@[simp] theorem State.lose_stack (s : State) (i : Fin 24) : (s.lose i).stack = s.stack := rfl
@[simp] theorem State.lose_latch (s : State) (i : Fin 24) : (s.lose i).latch = s.latch := rfl
@[simp] theorem State.lose_budgets (s : State) (i : Fin 24) : (s.lose i).budgets = s.budgets := rfl
@[simp] theorem State.lose_enables (s : State) (i : Fin 24) : (s.lose i).enables = s.enables := rfl
@[simp] theorem State.lose_alertSource (s : State) (i : Fin 24) : (s.lose i).alertSource = s.alertSource := rfl
@[simp] theorem State.lose_srcSel (s : State) (i : Fin 24) : (s.lose i).srcSel = s.srcSel := rfl
@[simp] theorem State.lose_ctxSel (s : State) (i : Fin 24) : (s.lose i).ctxSel = s.ctxSel := rfl
@[simp] theorem State.lose_timerSel (s : State) (i : Fin 24) : (s.lose i).timerSel = s.timerSel := rfl
@[simp] theorem State.lose_budgetSel (s : State) (i : Fin 24) : (s.lose i).budgetSel = s.budgetSel := rfl
@[simp] theorem State.lose_cmdStatus (s : State) (i : Fin 24) : (s.lose i).cmdStatus = s.cmdStatus := rfl
@[simp] theorem State.lose_readLatch (s : State) (i : Fin 24) : (s.lose i).readLatch = s.readLatch := rfl
@[simp] theorem State.lose_holding (s : State) (i : Fin 24) : (s.lose i).holding = s.holding := rfl
@[simp] theorem State.lose_draws (s : State) (i : Fin 24) : (s.lose i).draws = s.draws := rfl
@[simp] theorem State.lose_pending (s : State) (i : Fin 24) : (s.lose i).pending = s.pending := rfl
@[simp] theorem State.lose_sources (s : State) (i : Fin 24) :
    (s.lose i).sources = s.sources.set i { s.src i with missed := min 255 ((s.src i).missed + 1) } := rfl
@[simp] theorem State.lose_flags (s : State) (i : Fin 24) :
    (s.lose i).flags = { s.flags with missed := true } := rfl
@[simp] theorem State.lose_settings (s : State) (i : Fin 24) : (s.lose i).settings = s.settings := rfl

/-! ### advanceTime -/

@[simp] theorem State.advanceTime_resetLow (s : State) : s.advanceTime.resetLow = s.resetLow := rfl
@[simp] theorem State.advanceTime_dataOut (s : State) : s.advanceTime.dataOut = s.dataOut := rfl
@[simp] theorem State.advanceTime_divider (s : State) : s.advanceTime.divider = s.divider := rfl
@[simp] theorem State.advanceTime_tbRun (s : State) : s.advanceTime.tbRun = s.tbRun := rfl
@[simp] theorem State.advanceTime_lines (s : State) : s.advanceTime.lines = s.lines := rfl
@[simp] theorem State.advanceTime_timers (s : State) : s.advanceTime.timers = s.timers := rfl
@[simp] theorem State.advanceTime_postSrc (s : State) : s.advanceTime.postSrc = s.postSrc := rfl
@[simp] theorem State.advanceTime_freeCount (s : State) : s.advanceTime.freeCount = s.freeCount := rfl
@[simp] theorem State.advanceTime_lowMark (s : State) : s.advanceTime.lowMark = s.lowMark := rfl
@[simp] theorem State.advanceTime_sources (s : State) : s.advanceTime.sources = s.sources := rfl
@[simp] theorem State.advanceTime_agePeriod (s : State) : s.advanceTime.agePeriod = s.agePeriod := rfl
@[simp] theorem State.advanceTime_agingCount (s : State) : s.advanceTime.agingCount = s.agingCount := rfl
@[simp] theorem State.advanceTime_floor (s : State) : s.advanceTime.floor = s.floor := rfl
@[simp] theorem State.advanceTime_stack (s : State) : s.advanceTime.stack = s.stack := rfl
@[simp] theorem State.advanceTime_latch (s : State) : s.advanceTime.latch = s.latch := rfl
@[simp] theorem State.advanceTime_budgets (s : State) : s.advanceTime.budgets = s.budgets := rfl
@[simp] theorem State.advanceTime_flags (s : State) : s.advanceTime.flags = s.flags := rfl
@[simp] theorem State.advanceTime_enables (s : State) : s.advanceTime.enables = s.enables := rfl
@[simp] theorem State.advanceTime_alertSource (s : State) : s.advanceTime.alertSource = s.alertSource := rfl
@[simp] theorem State.advanceTime_srcSel (s : State) : s.advanceTime.srcSel = s.srcSel := rfl
@[simp] theorem State.advanceTime_ctxSel (s : State) : s.advanceTime.ctxSel = s.ctxSel := rfl
@[simp] theorem State.advanceTime_timerSel (s : State) : s.advanceTime.timerSel = s.timerSel := rfl
@[simp] theorem State.advanceTime_budgetSel (s : State) : s.advanceTime.budgetSel = s.budgetSel := rfl
@[simp] theorem State.advanceTime_cmdStatus (s : State) : s.advanceTime.cmdStatus = s.cmdStatus := rfl
@[simp] theorem State.advanceTime_readLatch (s : State) : s.advanceTime.readLatch = s.readLatch := rfl
@[simp] theorem State.advanceTime_holding (s : State) : s.advanceTime.holding = s.holding := rfl
@[simp] theorem State.advanceTime_draws (s : State) : s.advanceTime.draws = s.draws := rfl
@[simp] theorem State.advanceTime_pending (s : State) : s.advanceTime.pending = s.pending := rfl
@[simp] theorem State.advanceTime_timestamp (s : State) :
    s.advanceTime.timestamp = s.timestamp + 1 := rfl
@[simp] theorem State.advanceTime_clkCount (s : State) :
    s.advanceTime.clkCount = 0 := rfl
@[simp] theorem State.advanceTime_intervalDivider (s : State) :
    s.advanceTime.intervalDivider = s.divider := rfl
@[simp] theorem State.advanceTime_src (s : State) (j : Fin 24) : s.advanceTime.src j = s.src j := rfl
@[simp] theorem State.advanceTime_settings (s : State) : s.advanceTime.settings = s.settings := rfl

/-! ### sampleLines -/

@[simp] theorem State.sampleLines_resetLow (s : State) (w : Word) : (s.sampleLines w).resetLow = s.resetLow :=
  by unfold State.sampleLines; rfl
@[simp] theorem State.sampleLines_dataOut (s : State) (w : Word) : (s.sampleLines w).dataOut = s.dataOut := by unfold State.sampleLines; rfl
@[simp] theorem State.sampleLines_divider (s : State) (w : Word) : (s.sampleLines w).divider = s.divider := by unfold State.sampleLines; rfl
@[simp] theorem State.sampleLines_clkCount (s : State) (w : Word) : (s.sampleLines w).clkCount = s.clkCount :=
  by unfold State.sampleLines; rfl
@[simp] theorem State.sampleLines_intervalDivider (s : State) (w : Word) : (s.sampleLines w).intervalDivider = s.intervalDivider :=
  by unfold State.sampleLines; rfl
@[simp] theorem State.sampleLines_tbRun (s : State) (w : Word) : (s.sampleLines w).tbRun = s.tbRun := by unfold State.sampleLines; rfl
@[simp] theorem State.sampleLines_timestamp (s : State) (w : Word) : (s.sampleLines w).timestamp = s.timestamp :=
  by unfold State.sampleLines; rfl
@[simp] theorem State.sampleLines_timers (s : State) (w : Word) : (s.sampleLines w).timers = s.timers := by unfold State.sampleLines; rfl
@[simp] theorem State.sampleLines_postSrc (s : State) (w : Word) : (s.sampleLines w).postSrc = s.postSrc := by unfold State.sampleLines; rfl
@[simp] theorem State.sampleLines_freeCount (s : State) (w : Word) : (s.sampleLines w).freeCount = s.freeCount :=
  by unfold State.sampleLines; rfl
@[simp] theorem State.sampleLines_lowMark (s : State) (w : Word) : (s.sampleLines w).lowMark = s.lowMark := by unfold State.sampleLines; rfl
@[simp] theorem State.sampleLines_sources (s : State) (w : Word) : (s.sampleLines w).sources = s.sources := by unfold State.sampleLines; rfl
@[simp] theorem State.sampleLines_agePeriod (s : State) (w : Word) : (s.sampleLines w).agePeriod = s.agePeriod :=
  by unfold State.sampleLines; rfl
@[simp] theorem State.sampleLines_agingCount (s : State) (w : Word) : (s.sampleLines w).agingCount = s.agingCount :=
  by unfold State.sampleLines; rfl
@[simp] theorem State.sampleLines_floor (s : State) (w : Word) : (s.sampleLines w).floor = s.floor := by unfold State.sampleLines; rfl
@[simp] theorem State.sampleLines_stack (s : State) (w : Word) : (s.sampleLines w).stack = s.stack := by unfold State.sampleLines; rfl
@[simp] theorem State.sampleLines_latch (s : State) (w : Word) : (s.sampleLines w).latch = s.latch := by unfold State.sampleLines; rfl
@[simp] theorem State.sampleLines_budgets (s : State) (w : Word) : (s.sampleLines w).budgets = s.budgets := by unfold State.sampleLines; rfl
@[simp] theorem State.sampleLines_flags (s : State) (w : Word) : (s.sampleLines w).flags = s.flags := by unfold State.sampleLines; rfl
@[simp] theorem State.sampleLines_enables (s : State) (w : Word) : (s.sampleLines w).enables = s.enables := by unfold State.sampleLines; rfl
@[simp] theorem State.sampleLines_alertSource (s : State) (w : Word) : (s.sampleLines w).alertSource = s.alertSource :=
  by unfold State.sampleLines; rfl
@[simp] theorem State.sampleLines_srcSel (s : State) (w : Word) : (s.sampleLines w).srcSel = s.srcSel := by unfold State.sampleLines; rfl
@[simp] theorem State.sampleLines_ctxSel (s : State) (w : Word) : (s.sampleLines w).ctxSel = s.ctxSel := by unfold State.sampleLines; rfl
@[simp] theorem State.sampleLines_timerSel (s : State) (w : Word) : (s.sampleLines w).timerSel = s.timerSel :=
  by unfold State.sampleLines; rfl
@[simp] theorem State.sampleLines_budgetSel (s : State) (w : Word) : (s.sampleLines w).budgetSel = s.budgetSel :=
  by unfold State.sampleLines; rfl
@[simp] theorem State.sampleLines_cmdStatus (s : State) (w : Word) : (s.sampleLines w).cmdStatus = s.cmdStatus :=
  by unfold State.sampleLines; rfl
@[simp] theorem State.sampleLines_readLatch (s : State) (w : Word) : (s.sampleLines w).readLatch = s.readLatch :=
  by unfold State.sampleLines; rfl
@[simp] theorem State.sampleLines_holding (s : State) (w : Word) : (s.sampleLines w).holding = s.holding := by unfold State.sampleLines; rfl
@[simp] theorem State.sampleLines_draws (s : State) (w : Word) : (s.sampleLines w).draws = s.draws := by unfold State.sampleLines; rfl
@[simp] theorem State.sampleLines_pending (s : State) (w : Word) : (s.sampleLines w).pending = s.pending := by unfold State.sampleLines; rfl
@[simp] theorem State.sampleLines_lines (s : State) (w : Word) :
    (s.sampleLines w).lines = Vector.ofFn fun n : Fin 16 => s.lines[n].sample (w.getLsbD n.val) := by unfold State.sampleLines; rfl
@[simp] theorem State.sampleLines_src (s : State) (w : Word) (j : Fin 24) : (s.sampleLines w).src j = s.src j :=
  by unfold State.sampleLines; rfl
@[simp] theorem State.sampleLines_settings (s : State) (w : Word) : (s.sampleLines w).settings = s.settings :=
  by unfold State.sampleLines; rfl

/-! ### countTimers -/

@[simp] theorem State.countTimers_resetLow (s : State) : s.countTimers.resetLow = s.resetLow := by unfold State.countTimers; rfl
@[simp] theorem State.countTimers_dataOut (s : State) : s.countTimers.dataOut = s.dataOut := by unfold State.countTimers; rfl
@[simp] theorem State.countTimers_divider (s : State) : s.countTimers.divider = s.divider := by unfold State.countTimers; rfl
@[simp] theorem State.countTimers_clkCount (s : State) : s.countTimers.clkCount = s.clkCount := by unfold State.countTimers; rfl
@[simp] theorem State.countTimers_intervalDivider (s : State) : s.countTimers.intervalDivider = s.intervalDivider :=
  by unfold State.countTimers; rfl
@[simp] theorem State.countTimers_tbRun (s : State) : s.countTimers.tbRun = s.tbRun := by unfold State.countTimers; rfl
@[simp] theorem State.countTimers_timestamp (s : State) : s.countTimers.timestamp = s.timestamp := by unfold State.countTimers; rfl
@[simp] theorem State.countTimers_lines (s : State) : s.countTimers.lines = s.lines := by unfold State.countTimers; rfl
@[simp] theorem State.countTimers_postSrc (s : State) : s.countTimers.postSrc = s.postSrc := by unfold State.countTimers; rfl
@[simp] theorem State.countTimers_freeCount (s : State) : s.countTimers.freeCount = s.freeCount := by unfold State.countTimers; rfl
@[simp] theorem State.countTimers_lowMark (s : State) : s.countTimers.lowMark = s.lowMark := by unfold State.countTimers; rfl
@[simp] theorem State.countTimers_sources (s : State) : s.countTimers.sources = s.sources := by unfold State.countTimers; rfl
@[simp] theorem State.countTimers_agePeriod (s : State) : s.countTimers.agePeriod = s.agePeriod := by unfold State.countTimers; rfl
@[simp] theorem State.countTimers_agingCount (s : State) : s.countTimers.agingCount = s.agingCount := by unfold State.countTimers; rfl
@[simp] theorem State.countTimers_floor (s : State) : s.countTimers.floor = s.floor := by unfold State.countTimers; rfl
@[simp] theorem State.countTimers_stack (s : State) : s.countTimers.stack = s.stack := by unfold State.countTimers; rfl
@[simp] theorem State.countTimers_latch (s : State) : s.countTimers.latch = s.latch := by unfold State.countTimers; rfl
@[simp] theorem State.countTimers_budgets (s : State) : s.countTimers.budgets = s.budgets := by unfold State.countTimers; rfl
@[simp] theorem State.countTimers_flags (s : State) : s.countTimers.flags = s.flags := by unfold State.countTimers; rfl
@[simp] theorem State.countTimers_enables (s : State) : s.countTimers.enables = s.enables := by unfold State.countTimers; rfl
@[simp] theorem State.countTimers_alertSource (s : State) : s.countTimers.alertSource = s.alertSource := by unfold State.countTimers; rfl
@[simp] theorem State.countTimers_srcSel (s : State) : s.countTimers.srcSel = s.srcSel := by unfold State.countTimers; rfl
@[simp] theorem State.countTimers_ctxSel (s : State) : s.countTimers.ctxSel = s.ctxSel := by unfold State.countTimers; rfl
@[simp] theorem State.countTimers_timerSel (s : State) : s.countTimers.timerSel = s.timerSel := by unfold State.countTimers; rfl
@[simp] theorem State.countTimers_budgetSel (s : State) : s.countTimers.budgetSel = s.budgetSel := by unfold State.countTimers; rfl
@[simp] theorem State.countTimers_cmdStatus (s : State) : s.countTimers.cmdStatus = s.cmdStatus := by unfold State.countTimers; rfl
@[simp] theorem State.countTimers_readLatch (s : State) : s.countTimers.readLatch = s.readLatch := by unfold State.countTimers; rfl
@[simp] theorem State.countTimers_holding (s : State) : s.countTimers.holding = s.holding := by unfold State.countTimers; rfl
@[simp] theorem State.countTimers_draws (s : State) : s.countTimers.draws = s.draws := by unfold State.countTimers; rfl
@[simp] theorem State.countTimers_pending (s : State) : s.countTimers.pending = s.pending := by unfold State.countTimers; rfl
@[simp] theorem State.countTimers_timers (s : State) :
    s.countTimers.timers = Vector.ofFn fun n : Fin 4 => s.timers[n].counted := by unfold State.countTimers; rfl
@[simp] theorem State.countTimers_src (s : State) (j : Fin 24) : s.countTimers.src j = s.src j := by unfold State.countTimers; rfl
@[simp] theorem State.countTimers_settings (s : State) : s.countTimers.settings = s.settings := by unfold State.countTimers; rfl

/-! ### setLineCfg -/

@[simp] theorem State.setLineCfg_resetLow (s : State) (n : Fin 16) (b : Byte) : (s.setLineCfg n b).resetLow = s.resetLow := rfl
@[simp] theorem State.setLineCfg_dataOut (s : State) (n : Fin 16) (b : Byte) : (s.setLineCfg n b).dataOut = s.dataOut := rfl
@[simp] theorem State.setLineCfg_divider (s : State) (n : Fin 16) (b : Byte) : (s.setLineCfg n b).divider = s.divider := rfl
@[simp] theorem State.setLineCfg_clkCount (s : State) (n : Fin 16) (b : Byte) : (s.setLineCfg n b).clkCount = s.clkCount := rfl
@[simp] theorem State.setLineCfg_intervalDivider (s : State) (n : Fin 16) (b : Byte) : (s.setLineCfg n b).intervalDivider = s.intervalDivider :=
  rfl
@[simp] theorem State.setLineCfg_tbRun (s : State) (n : Fin 16) (b : Byte) : (s.setLineCfg n b).tbRun = s.tbRun := rfl
@[simp] theorem State.setLineCfg_timestamp (s : State) (n : Fin 16) (b : Byte) : (s.setLineCfg n b).timestamp = s.timestamp := rfl
@[simp] theorem State.setLineCfg_timers (s : State) (n : Fin 16) (b : Byte) : (s.setLineCfg n b).timers = s.timers := rfl
@[simp] theorem State.setLineCfg_postSrc (s : State) (n : Fin 16) (b : Byte) : (s.setLineCfg n b).postSrc = s.postSrc := rfl
@[simp] theorem State.setLineCfg_freeCount (s : State) (n : Fin 16) (b : Byte) : (s.setLineCfg n b).freeCount = s.freeCount := rfl
@[simp] theorem State.setLineCfg_lowMark (s : State) (n : Fin 16) (b : Byte) : (s.setLineCfg n b).lowMark = s.lowMark := rfl
@[simp] theorem State.setLineCfg_sources (s : State) (n : Fin 16) (b : Byte) : (s.setLineCfg n b).sources = s.sources := rfl
@[simp] theorem State.setLineCfg_agePeriod (s : State) (n : Fin 16) (b : Byte) : (s.setLineCfg n b).agePeriod = s.agePeriod := rfl
@[simp] theorem State.setLineCfg_agingCount (s : State) (n : Fin 16) (b : Byte) : (s.setLineCfg n b).agingCount = s.agingCount := rfl
@[simp] theorem State.setLineCfg_floor (s : State) (n : Fin 16) (b : Byte) : (s.setLineCfg n b).floor = s.floor := rfl
@[simp] theorem State.setLineCfg_stack (s : State) (n : Fin 16) (b : Byte) : (s.setLineCfg n b).stack = s.stack := rfl
@[simp] theorem State.setLineCfg_latch (s : State) (n : Fin 16) (b : Byte) : (s.setLineCfg n b).latch = s.latch := rfl
@[simp] theorem State.setLineCfg_budgets (s : State) (n : Fin 16) (b : Byte) : (s.setLineCfg n b).budgets = s.budgets := rfl
@[simp] theorem State.setLineCfg_flags (s : State) (n : Fin 16) (b : Byte) : (s.setLineCfg n b).flags = s.flags := rfl
@[simp] theorem State.setLineCfg_enables (s : State) (n : Fin 16) (b : Byte) : (s.setLineCfg n b).enables = s.enables := rfl
@[simp] theorem State.setLineCfg_alertSource (s : State) (n : Fin 16) (b : Byte) : (s.setLineCfg n b).alertSource = s.alertSource := rfl
@[simp] theorem State.setLineCfg_srcSel (s : State) (n : Fin 16) (b : Byte) : (s.setLineCfg n b).srcSel = s.srcSel := rfl
@[simp] theorem State.setLineCfg_ctxSel (s : State) (n : Fin 16) (b : Byte) : (s.setLineCfg n b).ctxSel = s.ctxSel := rfl
@[simp] theorem State.setLineCfg_timerSel (s : State) (n : Fin 16) (b : Byte) : (s.setLineCfg n b).timerSel = s.timerSel := rfl
@[simp] theorem State.setLineCfg_budgetSel (s : State) (n : Fin 16) (b : Byte) : (s.setLineCfg n b).budgetSel = s.budgetSel := rfl
@[simp] theorem State.setLineCfg_cmdStatus (s : State) (n : Fin 16) (b : Byte) : (s.setLineCfg n b).cmdStatus = s.cmdStatus := rfl
@[simp] theorem State.setLineCfg_readLatch (s : State) (n : Fin 16) (b : Byte) : (s.setLineCfg n b).readLatch = s.readLatch := rfl
@[simp] theorem State.setLineCfg_holding (s : State) (n : Fin 16) (b : Byte) : (s.setLineCfg n b).holding = s.holding := rfl
@[simp] theorem State.setLineCfg_draws (s : State) (n : Fin 16) (b : Byte) : (s.setLineCfg n b).draws = s.draws := rfl
@[simp] theorem State.setLineCfg_pending (s : State) (n : Fin 16) (b : Byte) : (s.setLineCfg n b).pending = s.pending := rfl
@[simp] theorem State.setLineCfg_lines (s : State) (n : Fin 16) (b : Byte) :
    (s.setLineCfg n b).lines = s.lines.set n { s.lines[n] with mode := lineModeOfByte b, filter := filterOfByte b } := rfl
@[simp] theorem State.setLineCfg_src (s : State) (n : Fin 16) (b : Byte) (j : Fin 24) : (s.setLineCfg n b).src j = s.src j := rfl
@[simp] theorem State.setLineCfg_settings (s : State) (n : Fin 16) (b : Byte) : (s.setLineCfg n b).settings = s.settings := rfl

end Sys2Proof.Machine
end

