-- ==== Sys2Proof/Laws/Ops.lean ====
section
/-! SUPPORT. The shared operations, each said once: what it can do and what it leaves. Later proofs cite these instead of unfolding. -/

namespace Sys2Proof.Machine

/-! ### The wrapper of the commands -/

/-- A command that drives nothing does nothing while RESET_N is low, else its effect alone. -/
theorem unlessReset_cases (s : State) (f : State → State) :
    (s.resetLow = true ∧ unlessReset s f = s.undriven) ∨ (s.resetLow = false ∧ unlessReset s f = f s.undriven) := by
  unfold unlessReset; cases h : s.resetLow <;> simp

/-- With RESET_N not low a command that drives nothing has its effect. -/
theorem unlessReset_high {s : State} (h : s.resetLow = false) (f : State → State) : unlessReset s f = f s.undriven := by
  simp [unlessReset, h]

/-- With RESET_N not low a reading cycle drives its byte and has its effect. -/
theorem readUnlessReset_high {s : State} (h : s.resetLow = false) (f : State → Byte × State) :
    readUnlessReset s f = { (f s.undriven).2 with dataOut := some (f s.undriven).1 } := by
  simp [readUnlessReset, h]

/-- A reading cycle does nothing while RESET_N is low, else drives its byte and has its effect. -/
theorem readUnlessReset_cases (s : State) (f : State → Byte × State) :
    (s.resetLow = true ∧ readUnlessReset s f = s.undriven) ∨
    (s.resetLow = false ∧ readUnlessReset s f = { (f s.undriven).2 with dataOut := some (f s.undriven).1 }) := by
  unfold readUnlessReset; cases h : s.resetLow <;> simp

/-! ### The window -/

/-- A high address whose page reaches a record reads its view's latch (R144). -/
theorem State.highByte_of_reaches {s : State} {v : View} (h : s.reachesView v = true) : s.highByte v = s.latched v := by
  simp [State.highByte, h]

/-- A high address whose page reaches no record reads 00h (R146). -/
theorem State.highByte_of_not_reaches {s : State} {v : View} (h : s.reachesView v = false) : s.highByte v = 0 := by
  simp [State.highByte, h]

/-- A view whose latch holds 00h reads 00h at its high address, whatever the selector reaches. -/
theorem State.highByte_of_latched_zero {s : State} {v : View} (h : s.latched v = 0) : s.highByte v = 0 := by
  simp [State.highByte, h]

/-- Every high address reads `highByte` of its view. -/
@[simp] theorem State.windowRead_high (s : State) (v : View) : s.windowRead v.high = s.highByte v := by cases v <;> rfl

/-- Every low address reads the low byte of its view. -/
@[simp] theorem State.windowRead_low (s : State) (v : View) : s.windowRead v.low = loByte (s.viewWord v) := by cases v <;> rfl

/-- A view whose page reaches no record has value 0 (R144). -/
theorem State.viewWord_of_not_reaches {s : State} {v : View} (h : s.reachesView v = false) : s.viewWord v = 0 := by
  cases v <;> simp_all [State.reachesView, State.viewWord, pageWord]

/-- A plain read drives nothing while RESET_N is low, else the register's byte, and changes nothing else (R142, R150). -/
theorem State.readCycle_cases (s : State) (r : Reg) :
    (s.resetLow = true ∧ s.readCycle r = s.undriven) ∨
    (s.resetLow = false ∧ s.readCycle r = { s.undriven with dataOut := some (s.undriven.windowRead r) }) := readUnlessReset_cases s _

/-- A cycle that is a command has the command's effect. -/
theorem State.busCycle_of_command {c : Cycle} {i : Instr} (h : c.command = some i) (s : State) : s.busCycle c = exec i s := by
  cases c <;> simp_all [Cycle.command, State.busCycle]

/-- A cycle that is no command is a plain read or no cycle. -/
theorem State.busCycle_of_no_command {c : Cycle} (h : c.command = none) (s : State) :
    (∃ r, c = .read r ∧ s.busCycle c = .next (s.readCycle r)) ∨ (c = .noCycle ∧ s.busCycle c = .next s.undriven) := by
  cases c <;> simp_all [Cycle.command, State.busCycle]

/-! ### Source records -/

/-- Reading the record just written. -/
@[simp] theorem State.src_setSrc_self (s : State) (i : Fin 24) (q : Source) : (s.setSrc i q).src i = q := by
  simp [State.src, State.setSrc]

/-- Reading another record than the one written. -/
theorem State.src_setSrc_ne (s : State) {i j : Fin 24} (q : Source) (h : j ≠ i) : (s.setSrc i q).src j = s.src j := by
  have : i.val ≠ j.val := fun e => h (Fin.ext e.symm)
  simp [State.src, State.setSrc, this]

/-- Reading any record after one is written. -/
theorem State.src_setSrc (s : State) (i j : Fin 24) (q : Source) : (s.setSrc i q).src j = if j = i then q else s.src j := by
  by_cases h : j = i
  · subst h; simp
  · simp [h, State.src_setSrc_ne s q h]

/-- A later write of a record replaces an earlier one. -/
@[simp] theorem State.setSrc_setSrc (s : State) (i : Fin 24) (p q : Source) : (s.setSrc i p).setSrc i q = s.setSrc i q := by
  simp [State.setSrc]

/-- Writing back what a record holds changes nothing. -/
@[simp] theorem State.setSrc_src (s : State) (i : Fin 24) : s.setSrc i (s.src i) = s := by
  simp [State.setSrc, State.src]

/-- Two source tables agree when every record agrees. -/
theorem sources_ext {a b : State} (h : ∀ i : Fin 24, a.src i = b.src i) : a.sources = b.sources := by
  apply Vector.ext
  intro k hk
  exact h ⟨k, hk⟩

/-- The stack or the line unit changed by hand leaves the records. -/
@[simp] theorem State.src_withStack (s : State) (l : List Context) (i : Fin 24) : { s with stack := l }.src i = s.src i := rfl

/-! ### Numbers and bytes -/

/-- A byte names source `i` exactly when it is `i`'s number (R147). -/
theorem sourceOf_eq_some {b : Byte} {i : Fin 24} : sourceOf b = some i ↔ b.toNat = i.val := by
  unfold sourceOf
  split
  · simp [Fin.ext_iff]
  · constructor
    · intro h; simp at h
    · intro h; have := i.isLt; omega

/-- A byte of 24 to 255 names no source (R147). -/
theorem sourceOf_eq_none {b : Byte} : sourceOf b = none ↔ 24 ≤ b.toNat := by
  unfold sourceOf; split <;> simp <;> omega

/-- A byte names timer `n` exactly when it is `n`'s number (R147). -/
theorem timerOf_eq_some {b : Byte} {n : Fin 4} : timerOf b = some n ↔ b.toNat = n.val := by
  unfold timerOf
  split
  · simp [Fin.ext_iff]
  · constructor
    · intro h; simp at h
    · intro h; have := n.isLt; omega

/-- A byte of 4 to 255 names no timer (R147). -/
theorem timerOf_eq_none {b : Byte} : timerOf b = none ↔ 4 ≤ b.toNat := by
  unfold timerOf; split <;> simp <;> omega

/-- A selector byte names class `c` exactly when it is `c`'s number (R126). -/
theorem classOf_eq_some {b : Byte} {c : Fin 8} : classOf b = some c ↔ b.toNat = c.val := by
  unfold classOf
  split
  · simp [Fin.ext_iff]
  · constructor
    · intro h; simp at h
    · intro h; have := c.isLt; omega

/-- A selector byte of 8 to 255 names no class (R126). -/
theorem classOf_eq_none {b : Byte} : classOf b = none ↔ 8 ≤ b.toNat := by
  unfold classOf; split <;> simp <;> omega

/-- Source `i` is the source of line `n` exactly when they have the same number (R23). -/
theorem lineOf_eq_some {i : Fin 24} {n : Fin 16} : lineOf i = some n ↔ i = lineSource n := by
  unfold lineOf lineSource
  split
  · simp [Fin.ext_iff]
  · constructor
    · intro h; simp at h
    · intro h; have := n.isLt; have := congrArg Fin.val h; simp at this; omega

/-- Sources 16 to 23 have no line (R23). -/
theorem lineOf_eq_none {i : Fin 24} : lineOf i = none ↔ 16 ≤ i.val := by
  unfold lineOf; split <;> simp <;> omega

/-- A line source is no interval source (R23). -/
@[simp] theorem isInterval_lineSource (n : Fin 16) : isInterval (lineSource n) = false := by
  exact decide_eq_false (by have := n.isLt; simp only [lineSource]; omega)

/-- A timer's source is an interval source (R23). -/
@[simp] theorem isInterval_timerSource (n : Fin 4) : isInterval (timerSource n) = true := by
  simp [isInterval, timerSource]

/-! ### The pool and the losses -/

/-- An allocation as one record update (R5, R6). -/
theorem State.allocate_eq (s : State) :
    s.allocate = { s with
      freeCount := s.freeCount - 1
      flags := { s.flags with poolLow := s.flags.poolLow || decide (s.freeCount = s.lowMark) } } := by
  unfold State.allocate
  split
  · rename_i h; simp [State.setPoolLow, h]
  · rename_i h; simp [h]

@[simp] theorem State.allocate_src (s : State) (i : Fin 24) : s.allocate.src i = s.src i := by simp [State.allocate_eq, State.src]
@[simp] theorem State.allocate_freeCount (s : State) : s.allocate.freeCount = s.freeCount - 1 := by simp [State.allocate_eq]
@[simp] theorem State.allocate_stack (s : State) : s.allocate.stack = s.stack := by simp [State.allocate_eq]
@[simp] theorem State.allocate_lines (s : State) : s.allocate.lines = s.lines := by simp [State.allocate_eq]
@[simp] theorem State.allocate_settings (s : State) : s.allocate.settings = s.settings := by simp [State.allocate_eq, State.settings]

/-- A loss reaches its own record alone (R16). -/
theorem State.lose_src (s : State) (i j : Fin 24) :
    (s.lose i).src j = if j = i then { s.src i with missed := min 255 ((s.src i).missed + 1) } else s.src j :=
  State.src_setSrc s i j _

/-- An append reaches its own record alone (R9). -/
theorem State.append_src (s : State) (r : Record) (j : Fin 24) :
    (s.append r).src j = if j = r.source then { s.src r.source with queue := (s.src r.source).queue ++ [r] } else s.src j :=
  State.src_setSrc s r.source j _

/-- A displacement reaches its own record alone: the head lost, the arrival at the tail, one more missed (R13). -/
theorem State.displace_src (s : State) (r : Record) (j : Fin 24) :
    (s.displace r).src j = if j = r.source then
      { s.src r.source with queue := (s.src r.source).queue.tail ++ [r], missed := min 255 ((s.src r.source).missed + 1) } else s.src j := by
  unfold State.displace
  rw [State.lose_src]
  by_cases h : j = r.source
  · simp [h]
  · simp [h, State.src_setSrc_ne s _ h]

/-! ### Admission -/

/-- What an admission may touch: of the arrival's source the queue and the missed count, the free count, and the flags, where BUDGET stays
and no set flag is cleared. -/
structure AdmitFrame (s t : State) (i : Fin 24) : Prop where
  others : ∀ j : Fin 24, j ≠ i → t.src j = s.src j
  config : (t.src i).config = (s.src i).config
  credits : (t.src i).credits = (s.src i).credits
  budgetFlag : t.flags.budget = s.flags.budget
  poolLow : s.flags.poolLow = true → t.flags.poolLow = true
  poolEmpty : s.flags.poolEmpty = true → t.flags.poolEmpty = true
  missed : s.flags.missed = true → t.flags.missed = true
  rest : t = { s with sources := t.sources, freeCount := t.freeCount, flags := t.flags }

/-- Touching nothing. -/
theorem AdmitFrame.refl (s : State) (i : Fin 24) : AdmitFrame s s i :=
  ⟨fun _ _ => rfl, rfl, rfl, rfl, id, id, id, rfl⟩

/-- One touch after another of the same source. -/
theorem AdmitFrame.trans {s t u : State} {i : Fin 24} (h : AdmitFrame s t i) (k : AdmitFrame t u i) : AdmitFrame s u i where
  others j hj := (k.others j hj).trans (h.others j hj)
  config := k.config.trans h.config
  credits := k.credits.trans h.credits
  budgetFlag := k.budgetFlag.trans h.budgetFlag
  poolLow x := k.poolLow (h.poolLow x)
  poolEmpty x := k.poolEmpty (h.poolEmpty x)
  missed x := k.missed (h.missed x)
  rest := by rw [k.rest, h.rest]

/-- A loss is within the frame. -/
theorem State.lose_frame (s : State) (i : Fin 24) : AdmitFrame s (s.lose i) i where
  others j hj := by simp [State.lose_src, hj]
  config := by simp [State.lose_src, Source.config]
  credits := by simp [State.lose_src]
  budgetFlag := rfl
  poolLow := id
  poolEmpty := id
  missed _ := rfl
  rest := rfl

/-- A displacement is within the frame. -/
theorem State.displace_frame (s : State) (r : Record) : AdmitFrame s (s.displace r) r.source where
  others j hj := by simp [State.displace_src, hj]
  config := by simp [State.displace_src, Source.config]
  credits := by simp [State.displace_src]
  budgetFlag := rfl
  poolLow := id
  poolEmpty := id
  missed _ := rfl
  rest := rfl

/-- An append is within the frame. -/
theorem State.append_frame (s : State) (r : Record) : AdmitFrame s (s.append r) r.source where
  others j hj := by simp [State.append_src, hj]
  config := by simp [State.append_src, Source.config]
  credits := by simp [State.append_src]
  budgetFlag := rfl
  poolLow := id
  poolEmpty := id
  missed := id
  rest := rfl

/-- An allocation is within the frame of every source. -/
theorem State.allocate_frame (s : State) (i : Fin 24) : AdmitFrame s s.allocate i where
  others j _ := by simp
  config := by simp
  credits := by simp
  budgetFlag := by simp [State.allocate_eq]
  poolLow h := by simp [State.allocate_eq, h]
  poolEmpty h := by simp [State.allocate_eq, h]
  missed h := by simp [State.allocate_eq, h]
  rest := by simp [State.allocate_eq]

/-- POOL_EMPTY is within the frame of every source. -/
theorem State.setPoolEmpty_frame (s : State) (i : Fin 24) : AdmitFrame s s.setPoolEmpty i where
  others _ _ := rfl
  config := rfl
  credits := rfl
  budgetFlag := rfl
  poolLow := id
  poolEmpty _ := rfl
  missed := id
  rest := rfl

/-- A merge into the queue's head is within the frame. -/
theorem State.setQueue_frame (s : State) (i : Fin 24) (l : List Record) : AdmitFrame s (s.setSrc i { s.src i with queue := l }) i where
  others j hj := State.src_setSrc_ne s _ hj
  config := by simp [Source.config]
  credits := by simp
  budgetFlag := rfl
  poolLow := id
  poolEmpty := id
  missed := id
  rest := rfl

/-- COALESCE is within the frame. -/
theorem State.coalesce_frame (s : State) (r : Record) : AdmitFrame s (s.coalesce r) r.source := by
  unfold State.coalesce
  split
  · split
    · exact s.lose_frame _
    · exact s.setQueue_frame _ _
  · split
    · exact (s.setPoolEmpty_frame _).trans (State.lose_frame _ _)
    · exact (s.allocate_frame _).trans (State.append_frame _ _)

/-- Admission to a line or posted source is within the frame. -/
theorem State.enqueue_frame (s : State) (r : Record) : AdmitFrame s (s.enqueue r).2 r.source := by
  unfold State.enqueue
  split
  · split
    · exact s.displace_frame r
    · exact s.lose_frame _
  · split
    · split
      · exact (s.setPoolEmpty_frame _).trans (State.displace_frame _ _)
      · exact (s.setPoolEmpty_frame _).trans (State.lose_frame _ _)
    · exact (s.allocate_frame _).trans (State.append_frame _ _)

/-- Every admission is within the frame of the arrival's source (R10 to R16). -/
theorem State.admit_frame (s : State) (r : Record) : AdmitFrame s (s.admitArrival r).2 r.source := by
  unfold State.admitArrival
  split
  · exact AdmitFrame.refl s _
  · split
    · exact s.coalesce_frame r
    · exact s.enqueue_frame r

/-- No admission empties a queue. -/
theorem State.admit_queue_ne_nil (s : State) (r : Record) (i : Fin 24) (h : (s.src i).queue ≠ []) : ((s.admitArrival r).2.src i).queue ≠ [] := by
  by_cases hi : i = r.source
  · subst hi
    unfold State.admitArrival State.coalesce State.enqueue
    split
    · exact h
    split
    · split
      · split
        · simp [State.lose_src, h]
        · simp
      · rename_i he; exact absurd he h
    · split
      · split <;> simp [State.displace_src, State.lose_src, h]
      · split
        · split <;> simp [State.displace_src, State.lose_src, h]
        · simp [State.append_src]
  · rw [(s.admit_frame r).others i hi]; exact h

/-! ### Re-assertion -/

/-- A re-assertion either does nothing or is the admission of its record (R55). -/
theorem State.reassert_cases (s : State) (n : Fin 16) :
    (s.reassertable n = false ∧ s.reassert n = s) ∨
    (s.reassertable n = true ∧ s.reassert n = (s.admitArrival (s.reassertRecord n)).2) := by
  unfold State.reassert; cases h : s.reassertable n <;> simp

/-- A re-assertion is within the frame of its line's source. -/
theorem State.reassert_frame (s : State) (n : Fin 16) : AdmitFrame s (s.reassert n) (lineSource n) := by
  rcases s.reassert_cases n with ⟨_, h⟩ | ⟨_, h⟩ <;> rw [h]
  · exact AdmitFrame.refl s _
  · exact s.admit_frame (s.reassertRecord n)

/-! ### What stays through any number of admissions -/

/-- What no admission and no credit touches: everything but the records' queue, missed count and credits, the free count and the flags. -/
structure WorkFrame (s t : State) : Prop where
  config : ∀ i : Fin 24, (t.src i).config = (s.src i).config
  budgetFlag : t.flags.budget = s.flags.budget
  poolLow : s.flags.poolLow = true → t.flags.poolLow = true
  poolEmpty : s.flags.poolEmpty = true → t.flags.poolEmpty = true
  missed : s.flags.missed = true → t.flags.missed = true
  rest : t = { s with sources := t.sources, freeCount := t.freeCount, flags := t.flags }

/-- Touching nothing. -/
theorem WorkFrame.refl (s : State) : WorkFrame s s := ⟨fun _ => rfl, rfl, id, id, id, rfl⟩

/-- One work after another. -/
theorem WorkFrame.trans {s t u : State} (h : WorkFrame s t) (k : WorkFrame t u) : WorkFrame s u where
  config i := (k.config i).trans (h.config i)
  budgetFlag := k.budgetFlag.trans h.budgetFlag
  poolLow x := k.poolLow (h.poolLow x)
  poolEmpty x := k.poolEmpty (h.poolEmpty x)
  missed x := k.missed (h.missed x)
  rest := by rw [k.rest, h.rest]

/-- The frame of one source is a frame of works. -/
theorem AdmitFrame.work {s t : State} {i : Fin 24} (h : AdmitFrame s t i) : WorkFrame s t where
  config j := by
    by_cases hj : j = i
    · subst hj; exact h.config
    · rw [h.others j hj]
  budgetFlag := h.budgetFlag
  poolLow := h.poolLow
  poolEmpty := h.poolEmpty
  missed := h.missed
  rest := h.rest

/-- An aging expiry reads and writes credits alone (R89). -/
theorem State.grantCredits_src (s : State) (i : Fin 24) :
    s.grantCredits.src i =
      if s.eligible i = true ∧ (s.src i).credits < 16 then { s.src i with credits := (s.src i).credits + 1 } else s.src i := by
  have h : s.grantCredits.src i = if s.eligible i && decide ((s.src i).credits < 16) then
      { s.src i with credits := (s.src i).credits + 1 } else s.src i := by
    unfold State.grantCredits State.src; exact Vector.getElem_ofFn _
  rw [h]; exact if_congr (by rw [Bool.and_eq_true, decide_eq_true_iff]) rfl rfl

/-- An aging expiry is a work. -/
theorem State.grantCredits_frame (s : State) : WorkFrame s s.grantCredits where
  config i := by rw [State.grantCredits_src]; split <;> rfl
  budgetFlag := by unfold State.grantCredits; rfl
  poolLow := by unfold State.grantCredits; exact id
  poolEmpty := by unfold State.grantCredits; exact id
  missed := by unfold State.grantCredits; exact id
  rest := by unfold State.grantCredits; rfl

/-- Every work of a tick is within the frame. -/
theorem State.doWork_frame (s : State) (k : TickWork) : WorkFrame s (s.doWork k) := by
  cases k with
  | arrive r => exact (s.admit_frame r).work
  | age => exact s.grantCredits_frame

/-- All works of a tick, in any order, are within the frame. -/
theorem State.foldl_doWork_frame (l : List TickWork) (s : State) : WorkFrame s (l.foldl State.doWork s) := by
  induction l generalizing s with
  | nil => exact WorkFrame.refl s
  | cons k l ih => exact (s.doWork_frame k).trans (ih (s.doWork k))

/-- Any run of re-assertions is within the frame. -/
theorem State.foldl_reassert_frame (l : List (Fin 16)) (s : State) : WorkFrame s (l.foldl State.reassert s) := by
  induction l generalizing s with
  | nil => exact WorkFrame.refl s
  | cons n l ih => exact (s.reassert_frame n).work.trans (ih (s.reassert n))

/-! ### The order of a tick's works -/

/-- The works of a tick are the same in whatever order they are taken (log 5). -/
theorem State.ordered_perm (s : State) (arrivals : List Record) (age : Bool) :
    (s.ordered arrivals age).Perm (tickWorks arrivals age) := by
  unfold State.ordered
  split
  · exact List.perm_insertionSort _ _
  · exact List.Perm.refl _

/-- Drawing an order touches the counter of free values alone. -/
theorem State.drawOrder_eq (s : State) (arrivals : List Record) (age : Bool) :
    s.drawOrder arrivals age = { s with draws := (s.drawOrder arrivals age).draws } := by
  unfold State.drawOrder; split <;> rfl

/-! ### The grant, the take and the pop -/

/-- A grant pushes the winner or does nothing (R107). -/
theorem State.grant_cases (s : State) :
    (s.grantCondition = false ∧ s.grant = (0, s)) ∨
    (∃ w, s.winner = some w ∧ s.canGrant w = true ∧ s.grantCondition = true ∧ s.grant = (grantByte w, s.push w)) := by
  unfold State.grant State.grantCondition
  cases h : s.winner with
  | none => exact .inl ⟨by simp, by simp⟩
  | some w =>
    cases hc : s.canGrant w
    · exact .inl ⟨by simp [hc], by simp [hc]⟩
    · exact .inr ⟨w, rfl, hc, by simp [hc], by simp [hc]⟩

/-- A pop of a non-empty stack: the rest, with the re-assertion test of the popped source, and its top resumed (R120, R121). -/
theorem State.pop_cons (s : State) (c : Context) (rest : List Context) (h : s.stack = c :: rest) :
    ∃ t, (t = { s with stack := rest } ∨ ∃ n, lineOf c.source = some n ∧ t = State.reassert { s with stack := rest } n) ∧
      s.pop = { t with stack := onTop Context.resume rest } := by
  unfold State.pop
  rw [h]
  cases hl : lineOf c.source with
  | none => exact ⟨_, .inl rfl, by simp [hl]⟩
  | some n =>
    refine ⟨_, .inr ⟨n, rfl, rfl⟩, ?_⟩
    have hs : (State.reassert { s with stack := rest } n).stack = rest := by
      rw [(State.reassert_frame { s with stack := rest } n).rest]
    simp [hl, hs]

/-- A pop on an empty stack does nothing. -/
@[simp] theorem State.pop_nil (s : State) (h : s.stack = []) : s.pop = s := by unfold State.pop; rw [h]

/-- A pop is a work but for the stack, of which it drops the top. -/
theorem State.pop_frame (s : State) :
    WorkFrame { s with stack := onTop Context.resume s.stack.tail } { s.pop with stack := onTop Context.resume s.stack.tail } ∧
      s.pop.stack = onTop Context.resume s.stack.tail := by
  cases h : s.stack with
  | nil => rw [s.pop_nil h]; exact ⟨WorkFrame.refl _, by simp [h, onTop]⟩
  | cons c rest =>
    obtain ⟨t, ht, hp⟩ := s.pop_cons c rest h
    rw [hp]
    refine ⟨?_, rfl⟩
    have hw : WorkFrame { s with stack := rest } t := by
      rcases ht with rfl | ⟨n, _, rfl⟩
      · exact WorkFrame.refl _
      · exact (State.reassert_frame _ n).work
    constructor
    · exact hw.config
    · exact hw.budgetFlag
    · exact hw.poolLow
    · exact hw.poolEmpty
    · exact hw.missed
    · have := hw.rest
      simp only [List.tail_cons]
      rw [this]

end Sys2Proof.Machine
end

