-- ==== Sys2Proof/Laws/PerInstr.lean ====
section
/-! SUPPORT. Per-command lemmas. Family BusCycle: the bus cycle that the register map gives a well-formed command decodes to that command
(R141, R142); the pin and tick events have no bus cycle. -/

namespace Sys2Proof

/-- The register map's addresses decode back to their register (08, section 5). -/
@[simp] theorem Reg.ofAddr_addr (r : Reg) : Reg.ofAddr r.addr = r := by cases r <;> decide

/-- The pins of a write make that write (R141). -/
@[simp] theorem BusPins.cycle_ofWrite (r : Reg) (b : Byte) : (BusPins.ofWrite r b).cycle = .write r b := by
  simp [BusPins.ofWrite, BusPins.cycle]

/-- The pins of a read make that read (R141). -/
@[simp] theorem BusPins.cycle_ofRead (r : Reg) : (BusPins.ofRead r).cycle = .read r := by
  simp [BusPins.ofRead, BusPins.cycle]

/-- RD_N and ACK_N low with WR_N high make an acknowledge cycle (R143). -/
@[simp] theorem BusPins.cycle_acknowledge (cs : Bool) (a : BitVec 6) (d : Byte) :
    (BusPins.mk cs false true false a d).cycle = .acknowledge cs a := by cases cs <;> rfl

end Sys2Proof

namespace Sys2Proof.Laws.BusCycle

/-- The bus cycle of a well-formed command decodes to the command. -/
def Statement (i : Instr) : Prop := i.wf = true → ∀ p, i.busPins = some p → p.cycle.command = some i

/-- An event without a bus cycle. -/
theorem of_none {i : Instr} (h : i.busPins = none) : Statement i := by
  intro _ p hp; rw [h] at hp; exact absurd hp (by simp)

/-- A command that is a write. -/
theorem of_write {i : Instr} {r : Reg} {b : Byte} (h : i.busPins = some (.ofWrite r b)) (hw : i.wf = true → r.writeCommand b = i) :
    Statement i := by
  intro hi p hp
  rw [h, Option.some.injEq] at hp
  rw [← hp, BusPins.cycle_ofWrite, Cycle.command, hw hi]

/-- A command that is a read. -/
theorem of_read {i : Instr} {r : Reg} (h : i.busPins = some (.ofRead r)) (hr : r.readCommand = some i) : Statement i := by
  intro _ p hp
  rw [h, Option.some.injEq] at hp
  rw [← hp, BusPins.cycle_ofRead, Cycle.command, hr]

/-- A well-formed REGISTER_WRITE names a register with no row of its own, and its write is that REGISTER_WRITE (R142). -/
theorem writeCommand_registerWrite (r : Reg) (b : Byte) (h : (Instr.registerWrite r b).wf = true) :
    r.writeCommand b = .registerWrite r b := by
  revert h; cases r <;> simp [Instr.wf, Reg.hasOwnWriteRow, Reg.writeCommand]

theorem resetNLow : Statement .resetNLow := of_none rfl
theorem resetNRelease : Statement .resetNRelease := of_none rfl
theorem tick (lines : Word) : Statement (.tick lines) := of_none rfl
theorem timerExpiry (n : Fin 4) : Statement (.timerExpiry n) := of_none rfl
theorem agingExpiry : Statement .agingExpiry := of_none rfl
theorem budgetExpiry : Statement .budgetExpiry := of_none rfl
theorem grant : Statement .grant := of_read rfl rfl
theorem acknowledgeCycle (cs : Bool) (a : BitVec 6) : Statement (.acknowledgeCycle cs a) := by
  intro _ p hp
  simp only [Instr.busPins, Option.some.injEq] at hp
  subst hp
  simp [Cycle.command]
theorem take : Statement .take := of_read rfl rfl
theorem endService (b : Byte) : Statement (.endService b) := of_write rfl fun _ => rfl
theorem unwind (b : Byte) : Statement (.unwind b) := of_write rfl fun _ => rfl
theorem flush (b : Byte) : Statement (.flush b) := of_write rfl fun _ => rfl
theorem clear (b : Byte) : Statement (.clear b) := of_write rfl fun _ => rfl
theorem post (b : Byte) : Statement (.post b) := of_write rfl fun _ => rfl
theorem timerArm (b : Byte) : Statement (.timerArm b) := of_write rfl fun _ => rfl
theorem timerStop (b : Byte) : Statement (.timerStop b) := of_write rfl fun _ => rfl
theorem srcCfg (b : Byte) : Statement (.srcCfg b) := of_write rfl fun _ => rfl
theorem srcClass (b : Byte) : Statement (.srcClass b) := of_write rfl fun _ => rfl
theorem srcQuota (b : Byte) : Statement (.srcQuota b) := of_write rfl fun _ => rfl
theorem srcLine (b : Byte) : Statement (.srcLine b) := of_write rfl fun _ => rfl
theorem floor (b : Byte) : Statement (.floor b) := of_write rfl fun _ => rfl
theorem agePeriodH (b : Byte) : Statement (.agePeriodH b) := of_write rfl fun _ => rfl
theorem tbDivH (b : Byte) : Statement (.tbDivH b) := of_write rfl fun _ => rfl
theorem tbCtrl (b : Byte) : Statement (.tbCtrl b) := of_write rfl fun _ => rfl
theorem stampH (b : Byte) : Statement (.stampH b) := of_write rfl fun _ => rfl
theorem timerPeriodH (b : Byte) : Statement (.timerPeriodH b) := of_write rfl fun _ => rfl
theorem timerCtrl (b : Byte) : Statement (.timerCtrl b) := of_write rfl fun _ => rfl
theorem budgetH (b : Byte) : Statement (.budgetH b) := of_write rfl fun _ => rfl
theorem budgetAction (b : Byte) : Statement (.budgetAction b) := of_write rfl fun _ => rfl
theorem lowMark (b : Byte) : Statement (.lowMark b) := of_write rfl fun _ => rfl
theorem alertFlags (b : Byte) : Statement (.alertFlags b) := of_write rfl fun _ => rfl
theorem alertEnable (b : Byte) : Statement (.alertEnable b) := of_write rfl fun _ => rfl
theorem holdingByteWrite (v : WideValue) (b : Byte) : Statement (.holdingByteWrite v b) := of_write rfl fun _ => by cases v <;> rfl
theorem lowByteRead (v : View) : Statement (.lowByteRead v) := of_read rfl (by cases v <;> rfl)
theorem registerWrite (r : Reg) (b : Byte) : Statement (.registerWrite r b) := of_write rfl (writeCommand_registerWrite r b)

end Sys2Proof.Laws.BusCycle
end

