-- ==== Sys2Proof/Laws/Ticks.lean ====
section
/-! SUPPORT. A tick taken apart: the counting of each unit on its own state, then the works in some order. -/

namespace Sys2Proof.Machine

/-- The Aging Unit's counting writes the aging count alone (R88). -/
theorem State.countAging_eq (s : State) : s.countAging = { s with agingCount := s.countAging.agingCount } := by
  unfold State.countAging; split
  · rfl
  · split <;> rfl

/-- The expiry of a budget writes the stack, the BUDGET flag and ALERT_SOURCE alone (R132). -/
theorem State.expireBudget_eq (s : State) :
    s.expireBudget = { s with
      stack := s.expireBudget.stack
      flags := { s.flags with budget := s.expireBudget.flags.budget }
      alertSource := s.expireBudget.alertSource } := by
  unfold State.expireBudget; split <;> rfl

/-- The Budget Unit's counting writes the stack, the BUDGET flag and ALERT_SOURCE alone (R130). -/
theorem State.countBudget_eq (s : State) :
    s.countBudget = { s with
      stack := s.countBudget.stack
      flags := { s.flags with budget := s.countBudget.flags.budget }
      alertSource := s.countBudget.alertSource } := by
  unfold State.countBudget
  split
  · rfl
  · split
    · split
      · exact s.expireBudget_eq
      · rfl
    · rfl

/-- The Budget Unit's counting changes the top context alone, and of it neither source, granted bid, grant stamp nor taken count. -/
theorem State.countBudget_stack (s : State) :
    s.countBudget.stack.tail = s.stack.tail ∧ s.countBudget.stack.map Context.source = s.stack.map Context.source := by
  unfold State.countBudget
  cases h : s.stack with
  | nil => simp [h]
  | cons c rest =>
    simp only
    split
    · split
      · simp [State.expireBudget, h, Context.expire]
      · simp
    · simp [h]

/-- The units' counting at a tick writes the lines, the timers, the aging count, the stack, the BUDGET flag and ALERT_SOURCE alone. -/
theorem State.countTick_eq (s : State) (w : Word) :
    s.countTick w = { s with
      lines := (s.sampleLines w).lines
      timers := s.countTimers.timers
      agingCount := s.countAging.agingCount
      stack := s.countBudget.stack
      flags := { s.flags with budget := s.countBudget.flags.budget }
      alertSource := s.countBudget.alertSource } := by
  unfold State.countTick
  rw [State.countBudget_eq, State.countAging_eq]
  have ha : ((s.sampleLines w).countTimers.countAging).agingCount = s.countAging.agingCount := by
    unfold State.countAging
    simp only [State.countTimers_agePeriod, State.sampleLines_agePeriod, State.countTimers_agingCount, State.sampleLines_agingCount]
    split
    · simp
    · split <;> rfl
  have hb : ∀ u : State, u.stack = s.stack → u.flags = s.flags → u.alertSource = s.alertSource → u.budgets = s.budgets →
      u.countBudget.stack = s.countBudget.stack ∧ u.countBudget.flags = s.countBudget.flags ∧
        u.countBudget.alertSource = s.countBudget.alertSource := by
    intro u h1 h2 h3 h4
    unfold State.countBudget State.expireBudget State.setBudgetFlag State.classBudget
    rw [h1, h2, h4]
    cases s.stack with
    | nil => exact ⟨h1, h2, h3⟩
    | cons c rest =>
      dsimp only
      split
      · split
        · exact ⟨rfl, rfl, rfl⟩
        · exact ⟨rfl, rfl, h3⟩
      · exact ⟨h1, h2, h3⟩
  obtain ⟨b1, b2, b3⟩ := hb
    { (s.sampleLines w).countTimers with agingCount := ((s.sampleLines w).countTimers.countAging).agingCount }
    (by simp) (by simp) (by simp) (by simp)
  rw [b1, b2, b3, ha]
  unfold State.countTimers State.sampleLines
  rfl

/-- A tick is: the new timestamp and interval, the units' counting, an order drawn where one is needed, and the tick's works in some
order (R66, R70; log 5). -/
theorem State.tickEffect_works (s : State) (w : Word) :
    ∃ (l : List TickWork) (d : Nat), l.Perm (tickWorks (s.advanceTime.tickArrivals w) s.advanceTime.agingDue) ∧
      s.tickEffect w = l.foldl State.doWork { s.advanceTime.countTick w with draws := d } := by
  refine ⟨_, ((s.advanceTime.countTick w).drawOrder (s.advanceTime.tickArrivals w) s.advanceTime.agingDue).draws,
    State.ordered_perm (s.advanceTime.countTick w) _ _, ?_⟩
  unfold State.tickEffect
  dsimp only
  exact congrArg (fun u => List.foldl State.doWork u _) (State.drawOrder_eq _ _ _)

end Sys2Proof.Machine
end

