-- ==== Sys2Proof/Tests/Slice0.lean ====
section
/-! SUPPORT. Own tests: one step each on small states, with expected values from the worked sequences and tables of spec/, and one witness
for every statement that has hypotheses. -/

namespace Sys2Proof.Tests

open Sys2Proof.Machine

/-! ### Helpers -/

/-- The state after a command; the state itself if the command stopped. -/
def after (c : Instr) (s : State) : State :=
  match exec c s with
  | .next t => t
  | .fault _ | .refused _ => s

/-- A record. -/
def ev (i : Fin 24) (k : Kind) (t : Word) (d : Byte) : Record := { source := i, kind := k, stamp := t, datum := d }

/-- A source with ADMIT and BID on, of class `c`, holding `l`. -/
def on (i : Fin 24) (c : BitVec 3) (l : List Record) : Source := { Source.reset i with admitOn := true, bid := true, cls := c, queue := l }

/-- A context without a budget. -/
def cx (i : Fin 24) (bid : Nat) (c : BitVec 3) : Context :=
  { source := i, grantedBid := bid, heldClass := c, grantStamp := 0, taken := 0, remaining := 0, bstate := .unlimited }

/-- A context with `r` ticks of budget in the given state. -/
def cxb (i : Fin 24) (bid : Nat) (c : BitVec 3) (r : Word) (b : BudgetState) : Context := { cx i bid c with remaining := r, bstate := b }

/-- A seeded line. -/
def line (q : Bool) (m : LineMode) (f run : Nat) : Line := { raw := q, qual := q, run := run, seeded := true, mode := m, filter := f }

/-- Line `n` replaced. -/
def withLine (s : State) (n : Fin 16) (l : Line) : State := { s with lines := s.lines.set n l }

/-- 06, section 7.1: source 6 PENDING with L1, LN6 high in LEVEL_HIGH; BUDGET 100 for class 1. -/
def sNest : State :=
  { (withLine (State.reset.setSrc 6 (on 6 1 [ev 6 .level 2990 0x40])) 6 (line true .levelHigh 3 0)) with
    timestamp := 3000, freeCount := 63, budgets := State.reset.budgets.set 1 { budget := 100, action := .notify } }

/-- 06, section 7: source 6 in service, its queue empty, LN6 still high; source 18 PENDING with 5Ah and class 3. -/
def sServed : State :=
  { (withLine ((State.reset.setSrc 6 (on 6 1 [])).setSrc 18 (on 18 3 [ev 18 .post 3004 0x5A])) 6 (line true .levelHigh 3 0)) with
    timestamp := 3004, freeCount := 63, stack := [cxb 6 32 1 96 .running] }

/-- 06, section 7: 22 over 18 over 6, the sources' queues empty but 18's; LN6 still high. -/
def sThree : State :=
  { sServed with timestamp := 3016, stack := [cxb 22 192 6 19 .running, cx 18 96 3, cxb 6 32 1 90 .paused] }

/-- 01, section 8.1, near exhaustion: free count 1, LOW_MARK 2; source 17 KEEP_NEWEST with quota 2 full of p and 41h, source 3 KEEP_OLDEST in service. -/
def sPool (free : Nat) : State :=
  { ((State.reset.setSrc 3 (on 3 1 [ev 3 .fall 1 0, ev 3 .rise 2 8])).setSrc 17
      { on 17 0 [ev 17 .post 1 0x30, ev 17 .post 2 0x41] with policy := .keepNewest, quota := 2 }).setSrc 21 (on 21 0 []) with
    freeCount := free, lowMark := 2, postSrc := 17, stack := [cx 3 32 1] }

/-- 05, section 9.1: sources 4 and 12 tie at 2 below FLOOR 6. -/
def sAging : State :=
  { (State.reset.setSrc 4 { on 4 0 [ev 4 .rise 1 0, ev 4 .rise 2 0, ev 4 .rise 3 0] with depthBoost := true }).setSrc 12
      { on 12 0 [ev 12 .rise 1 0] with credits := 2 } with
    floor := 6, agePeriod := 50, agingCount := 1, freeCount := 60 }

/-- A part with ticks stopped. -/
def sStopped : State := { State.reset with tbRun := false }

/-- A part held in reset. -/
def sLow : State := { State.reset with resetLow := true }

/-! ### Well-formedness -/

/-- REGISTER_WRITE names a register with no row of its own (R142): FLOOR has one. -/
theorem test_wf_refuses_register_with_own_row : (Instr.registerWrite .floor 0).wf = false := by decide
theorem test_wf_refuses_strobe : (Instr.registerWrite .post 0x41).wf = false := by decide
theorem test_wf_refuses_low_byte : (Instr.registerWrite .tbDivL 0).wf = false := by decide
theorem test_wf_accepts_selector : (Instr.registerWrite .srcSel 3).wf = true := by decide

/-! ### Bus cycles (08, sections 1 and 5: addresses of the register map) -/

theorem test_cycle_grant_read : (BusPins.mk false false true true 0x00 0).cycle.command = some .grant := by decide
theorem test_cycle_take_read : (BusPins.mk false false true true 0x02 0).cycle.command = some .take := by decide
theorem test_cycle_ack_over_take : (BusPins.mk false false true false 0x02 0).cycle.command = some (.acknowledgeCycle false 0x02) := by decide
theorem test_cycle_rd_and_wr : (BusPins.mk false false false true 0x02 0).cycle = .noCycle := by decide
theorem test_no_word_spells_a_command : decodeTableWord 16 0 = none := by decide
theorem test_withFetchWord_of_no_word : State.reset.withFetchWord 16 0 = State.reset := rfl

/-! ### Reset and ticks -/

theorem test_reset_low_releases_outputs : (after .resetNLow sNest).reqAsserted = false ∧ (after .resetNLow sNest).stack = [] := by decide
theorem test_release : (after .resetNRelease sLow).freeCount = 64 ∧ (after .resetNRelease sLow).postSrc = 16 := by decide

/-- 03, section 9, t6: the third differing sample qualifies the rise of LN10, datum 05h with LN8 high. -/
theorem test_tick_qualifies_at_filter_count :
    let s := withLine (withLine (State.reset.setSrc 10 (on 10 0 [])) 8 (line true .off 3 0)) 10 (line false .both 3 2)
    ((after (.tick 0x0500) { s with timestamp := 1205 }).src 10).queue = [ev 10 .rise 1206 0x05] := by decide

/-- 03, section 9, t3: the bounce sets the run count to 0 and leaves no trace. -/
theorem test_tick_bounce_cancels :
    let s := withLine (State.reset.setSrc 10 (on 10 0 [])) 10 (line false .both 3 2)
    (after (.tick 0) s).lines[10].run = 0 ∧ ((after (.tick 0) s).src 10).queue = [] := by decide

/-- 01, section 8, step 4: the second expiry is merged to datum 2 with the pool empty and no POOL_EMPTY. -/
theorem test_timer_expiry_merges :
    let s := { ((sPool 0).setSrc 21 (on 21 0 [ev 21 .interval 9 1])) with
      timers := State.reset.timers.set 1 { period := 7, mode := .repeating, running := true, count := 1 } }
    (((after (.timerExpiry 1) s).src 21).queue = [ev 21 .interval 9 2]) ∧ (after (.timerExpiry 1) s).flags.poolEmpty = false ∧
      (after (.timerExpiry 1) s).timers[1].count = 7 := by decide

/-- 05, section 9, step 1: both eligible sources gain one credit, and source 4 stays the winner at 3. -/
theorem test_aging_expiry : ((after .agingExpiry sAging).src 4).credits = 1 ∧ ((after .agingExpiry sAging).src 12).credits = 3 ∧
    (after .agingExpiry sAging).winner = some 4 ∧ (after .agingExpiry sAging).agingCount = 50 := by decide

/-- 07, section 5, t108: the context expires, BUDGET set, ALERT_SOURCE 7, the held class stays 2 under NOTIFY. -/
theorem test_budget_expiry_notify :
    let t := after .budgetExpiry { State.reset with stack := [cxb 7 64 2 1 .running] }
    t.stack = [cxb 7 64 2 0 .expired] ∧ t.flags.budget = true ∧ t.alertSource = 7 := by decide

/-! ### Service -/

/-- 06, section 7, step 1: grant 86h, held class 1, granted bid 32, RUNNING 100; REQ_N released. -/
theorem test_grant_pushes :
    (after .grant sNest).dataOut = some 0x86 ∧
    (after .grant sNest).stack = [{ cxb 6 32 1 100 .running with grantStamp := 3000 }] ∧ (after .grant sNest).reqAsserted = false := by decide

/-- 05, section 9, start: the winner's bid 2 is below FLOOR 6, so the grant answers 00h. -/
theorem test_grant_below_floor : (after .grant sAging).dataOut = some 0x00 ∧ (after .grant sAging).stack = [] := by decide

/-- 06, section 7, step 5: the acknowledge cycle answers 92h and pauses source 6's budget. -/
theorem test_acknowledge_preempts : (after (.acknowledgeCycle true 0x3F) sServed).dataOut = some 0x92 ∧
    ((after (.acknowledgeCycle true 0x3F) sServed).stack.map fun c => c.bstate) = [.unlimited, .paused] := by decide

/-- 06, section 8, take 1: record a with missed 3; the count is cleared and taken becomes 1. -/
theorem test_take_event :
    let s := { State.reset.setSrc 9 { on 9 0 [ev 9 .rise 5 1, ev 9 .fall 6 0] with missed := 3 } with stack := [cx 9 0 0], freeCount := 62 }
    (after .take s).dataOut = some 0x41 ∧ (after .take s).latch.missed = 3 ∧ ((after .take s).src 9).missed = 0 ∧
      (after .take s).freeCount = 63 := by decide

/-- 06, section 8, take 5: the stack is empty. -/
theorem test_take_no_context : (after .take sNest).dataOut = some 0xC0 := by decide

/-- 06, section 7, step 8: source 18 is below the top. -/
theorem test_end_service_out_of_order : (after (.endService 18) sThree).cmdStatus = .outOfOrder ∧
    (after (.endService 18) sThree).stack = sThree.stack := by decide

/-- The pop of the last context with LN6 still high re-asserts source 6 (R56). -/
theorem test_end_service_reasserts : (after (.endService 6) sServed).stack = [] ∧
    ((after (.endService 6) sServed).src 6).queue = [ev 6 .level 3004 0x40] := by decide

/-- 06, section 7, step 9: UNWIND re-asserts source 6 with stamp 3016 and keeps 5Ah; source 18 then wins. -/
theorem test_unwind : (after (.unwind 0xFF) sThree).stack = [] ∧
    ((after (.unwind 0xFF) sThree).src 6).queue = [ev 6 .level 3016 0x40] ∧ (after (.unwind 0xFF) sThree).winner = some 18 := by decide

/-! ### The other strobes -/

/-- 01, section 8, step 9: FLUSH 17 releases two records. -/
theorem test_flush : (after (.flush 17) (sPool 0)).freeCount = 2 ∧ ((after (.flush 17) (sPool 0)).src 17).queue = [] := by decide
theorem test_flush_bad_source : (after (.flush 24) (sPool 0)).cmdStatus = .badSource := by decide

set_option maxRecDepth 4000 in
/-- CLEAR re-asserts the active level source and nothing else (R57, R149). -/
theorem test_clear : (after (.clear 0) sThree).freeCount = 63 ∧ ((after (.clear 0) sThree).src 6).queue = [ev 6 .level 3016 0x40] ∧
    ((after (.clear 0) sThree).src 18).queue = [] := by decide

/-- 01, section 8, step 5: the full KEEP_NEWEST queue displaces its head, and the POST is answered REPLACED. -/
theorem test_post_replaced : (after (.post 0x42) (sPool 0)).cmdStatus = .replaced ∧
    (((after (.post 0x42) (sPool 0)).src 17).queue.map Record.datum) = [0x41, 0x42] ∧ (after (.post 0x42) (sPool 0)).flags.poolEmpty = false := by
  decide
theorem test_post_bad_source : (after (.post 1) { State.reset with postSrc := 20 }).cmdStatus = .badSource := by decide
theorem test_timer_arm : (after (.timerArm 3) State.reset).timers[3].running = true ∧ (after (.timerArm 4) State.reset).cmdStatus = .badTimer := by
  decide
theorem test_timer_stop : (after (.timerStop 0) (after (.timerArm 0) State.reset)).timers[0].running = false := by decide

/-! ### Configuration writes (08, section 6: the layouts) -/

theorem test_src_cfg : (after (.srcCfg 0x17) State.reset).windowRead .srcCfg = 0x17 := by decide
theorem test_src_cfg_interval_keeps_policy :
    (after (.srcCfg 0x13) { State.reset with srcSel := 20 }).windowRead .srcCfg = 0x23 := by decide
theorem test_src_class_keeps_low_bits : (after (.srcClass 0xFE) State.reset).windowRead .srcClass = 0x06 := by decide
theorem test_src_quota_clamps : (after (.srcQuota 0) State.reset).windowRead .srcQuota = 0x01 ∧
    (after (.srcQuota 200) State.reset).windowRead .srcQuota = 0x10 := by decide
theorem test_src_line_code_7_is_off : (after (.srcLine 0x07) State.reset).windowRead .srcLine = 0x10 := by decide
theorem test_src_line_reasserts :
    let s := { withLine (State.reset.setSrc 2 (on 2 4 [])) 2 (line true .off 2 0) with srcSel := 2 }
    ((after (.srcLine 0x24) s).src 2).queue = [ev 2 .level 0 0x04] := by decide

/-- 05, section 9, step 3: lowering FLOOR makes the condition hold at the write. -/
theorem test_floor_lowered : (after (.floor 2) sAging).reqAsserted = true := by decide
theorem test_age_period_loads_count :
    (after (.agePeriodH 0x01) { State.reset with holding := State.reset.holding.set 0 0x2C }).agingCount = 300 := by decide
theorem test_tb_div_keeps_interval : (after (.tbDivH 0x02) State.reset).divider = 512 ∧ (after (.tbDivH 0x02) State.reset).intervalDivider = 1000 := by
  decide
theorem test_tb_ctrl_stops : (after (.tbCtrl 0xFE) { State.reset with clkCount := 7 }).tbRun = false := by decide
theorem test_stamp : (after (.stampH 0x12) { State.reset with holding := State.reset.holding.set 2 0x34 }).timestamp = 0x1234 := by decide
theorem test_timer_period : (after (.timerPeriodH 0x01) { State.reset with timerSel := 3 }).timers[3].period = 256 := by decide
theorem test_timer_ctrl : (after (.timerCtrl 0x81) State.reset).windowRead .timerCtrl = 0x01 := by decide
theorem test_budget : (after (.budgetH 0x00) { State.reset with budgetSel := 2, holding := State.reset.holding.set 4 5 }).budgets[2].budget = 5 := by
  decide
theorem test_budget_action : (after (.budgetAction 0x03) { State.reset with budgetSel := 7 }).budgets[7].action = .notify := by decide
theorem test_low_mark_clamps : (after (.lowMark 64) State.reset).lowMark = 63 := by decide

/-- 07, section 5, step 8: clearing BUDGET leaves MISSED set. -/
theorem test_alert_flags :
    (after (.alertFlags 0xF1) { State.reset with flags := AlertBits.ofByte 0x09 }).windowRead .alertFlags = 0x08 := by decide

/-- 07, section 5, step 9: enabling MISSED while it is set asserts ALERT_N. -/
theorem test_alert_enable : (after (.alertEnable 0x09) { State.reset with flags := AlertBits.ofByte 0x08 }).alertAsserted = true := by decide
theorem test_holding_byte : (after (.holdingByteWrite .budget 0x05) State.reset).holding[4] = 0x05 := by decide
theorem test_low_byte_read : (after (.lowByteRead .tbDiv) State.reset).dataOut = some 0xE8 ∧
    (after (.lowByteRead .tbDiv) State.reset).windowRead .tbDivH = 0x03 := by decide
/-- R144: with another timer selected TIMER_PERIOD H reads the latch; R72: with none it reads 00h (log 8). -/
theorem test_high_byte_of_a_page :
    let s : State := { State.reset with readLatch := State.reset.readLatch.set 6 0x12 }
    { s with timerSel := 3 }.windowRead .timerPeriodH = 0x12 ∧ { s with timerSel := 4 }.windowRead .timerPeriodH = 0x00 := by decide

/-- R154, R105: a context page at a level at or beyond the stack depth reads 00h in every byte (log 8). -/
theorem test_context_page_beyond_the_depth :
    let s : State := { sServed with ctxSel := 1, readLatch := State.reset.readLatch.set 9 0x12 }
    ∀ r ∈ ([.ctxSrc, .ctxClass, .ctxBid, .ctxStampL, .ctxStampH, .ctxTaken, .ctxBudgetL, .ctxBudgetH, .ctxBstate] : List Reg),
      s.windowRead r = 0x00 := by decide

/-- R119, R147: END_SERVICE repeated after the pop that emptied the stack answers NO_CONTEXT (log 20). -/
theorem test_end_service_repeated :
    (after (.endService 6) (after (.endService 6) sServed)).cmdStatus = .noContext := by decide

/-- R150: while RESET_N is low a read of FREE_COUNT drives nothing; R142: else it drives 40h after reset. -/
theorem test_plain_read :
    sLow.busCycle (BusPins.ofRead .freeCount).cycle = .next sLow ∧
    State.reset.busCycle (BusPins.ofRead .freeCount).cycle = .next { State.reset with dataOut := some 0x40 } := ⟨rfl, rfl⟩

theorem test_register_write : (after (.registerWrite .ctxSel 200) State.reset).ctxSel = 200 ∧
    (after (.registerWrite .winner 200) State.reset) = State.reset := by decide

/-- 08, section 6: C3h reports that a grant now would push source 3. -/
theorem test_winner_byte : (State.reset.setSrc 3 (on 3 0 [ev 3 .rise 0 0])).windowRead .winner = 0xC3 := by decide

/-! ### Witnesses: for every statement with hypotheses, concrete states and operands that meet them, clause by clause -/

/-- Line source 0 with the given quota, policy and queue, ADMIT on. -/
def sQueue (quota : Nat) (p : Policy) (l : List Record) (free : Nat) : State :=
  { State.reset.setSrc 0 { on 0 0 l with quota := quota, policy := p } with freeCount := free }

/-- Interval source 23 with ADMIT on and the given queue. -/
def sMerge (l : List Record) (free : Nat) : State := { State.reset.setSrc 23 (on 23 0 l) with freeCount := free }

/-- Source `i` with class `c` waiting over a stack. -/
def sOver (l : List Context) (i : Fin 24) (c : BitVec 3) : State :=
  { State.reset.setSrc i (on i c [ev i .rise 0 0]) with stack := l, freeCount := 63 }

/-- Five contexts of different sources, held class 0 on top. -/
def five : List Context := [cx 1 0 0, cx 2 0 0, cx 3 0 0, cx 4 0 0, cx 5 0 0]

theorem witness_StepTakesTheFrontCommand :
    { State.reset with pending := [.grant, .take] }.pending = Instr.grant :: [Instr.take] := rfl

theorem witness_IdleStepIsOneClkPeriod :
    (sStopped.pending = [] ∧ sStopped.tbRun = false) ∧ (sLow.pending = [] ∧ sLow.resetLow = true) ∧
    (State.reset.pending = [] ∧ State.reset.tbRun = true ∧ State.reset.resetLow = false ∧
      State.reset.clkCount + 1 < (if State.reset.intervalDivider = 0 then 65536 else State.reset.intervalDivider.toNat)) ∧
    (let s : State := { State.reset with clkCount := 999 }
     s.pending = [] ∧ s.tbRun = true ∧ s.resetLow = false ∧
      ¬ s.clkCount + 1 < (if s.intervalDivider = 0 then 65536 else s.intervalDivider.toNat)) := by decide

theorem witness_IdleStepsToTheEndOfAnIntervalMakeOneTick :
    ∀ s ∈ [State.reset, { State.reset with clkCount := 999 }, { State.reset with intervalDivider := 0, clkCount := 65535 }],
      s.pending = [] ∧ s.tbRun = true ∧ s.resetLow = false ∧
        s.clkCount < (if s.intervalDivider = 0 then 65536 else s.intervalDivider.toNat) := by decide

theorem witness_LowResetIgnoresEveryOtherCommand : sLow.resetLow = true ∧ Instr.grant ≠ .resetNLow ∧ Instr.grant ≠ .resetNRelease := by decide

theorem witness_ResetPinEdges : sLow.resetLow = true ∧ sNest.resetLow = false := by decide

theorem witness_BusPinsMakeTheCycleOfTheTable :
    State.reset.resetLow = false ∧ Reg.ofAddr 0x19 ∉ ([.grant, .take] : List Reg) ∧ ∀ v : View, Reg.ofAddr 0x19 ≠ v.low :=
  ⟨rfl, by decide, fun v => by cases v <;> decide⟩

theorem witness_AcknowledgeCycleIsAGrantRead :
    (sNest.resetLow = false ∧ sNest.grantCondition = true) ∧ (sAging.resetLow = false ∧ sAging.grantCondition = false) := by decide

theorem witness_FullKeepOldestQueueDiscardsTheArrival :
    let s := sQueue 1 .keepOldest [ev 0 .rise 0 0] 0
    let r := ev 0 .fall 1 0
    isInterval r.source = false ∧ (s.src r.source).admitOn = true ∧ (s.src r.source).quota ≤ (s.src r.source).queue.length ∧
      (s.src r.source).policy = .keepOldest := by decide

theorem witness_FullKeepNewestQueueDisplacesItsHead :
    let s := sQueue 1 .keepNewest [ev 0 .rise 0 0, ev 0 .rise 1 0] 5
    let r := ev 0 .fall 1 0
    isInterval r.source = false ∧ (s.src r.source).admitOn = true ∧ (s.src r.source).queue = ev 0 .rise 0 0 :: [ev 0 .rise 1 0] ∧
      (s.src r.source).quota ≤ (ev 0 .rise 0 0 :: [ev 0 .rise 1 0]).length ∧ (s.src r.source).policy = .keepNewest := by decide

theorem witness_QueueWithRoomAppendsTheArrival :
    let s := sQueue 2 .keepNewest [ev 0 .rise 0 0] 1
    let r := ev 0 .fall 1 0
    isInterval r.source = false ∧ (s.src r.source).admitOn = true ∧ (s.src r.source).queue.length < (s.src r.source).quota ∧
      1 ≤ s.freeCount := by decide

theorem witness_QueueWithRoomMeetsTheEmptyPool :
    ∀ s ∈ [sQueue 2 .keepOldest [ev 0 .rise 0 0] 0, sQueue 1 .keepNewest [] 0, sQueue 2 .keepNewest [ev 0 .rise 0 0] 0],
      isInterval (0 : Fin 24) = false ∧ (s.src 0).admitOn = true ∧ (s.src 0).queue.length < (s.src 0).quota ∧ s.freeCount = 0 := by decide

theorem witness_IntervalExpiryCoalesces :
    isInterval 23 = true ∧ ((sMerge [ev 23 .interval 0 254] 0).src 23).admitOn = true ∧
    ((sMerge [ev 23 .interval 0 254] 0).src 23).queue = [ev 23 .interval 0 254] ∧ (ev 23 .interval 0 254).datum ≠ 255 ∧
    ((sMerge [ev 23 .interval 0 255] 0).src 23).queue = [ev 23 .interval 0 255] ∧ (ev 23 .interval 0 255).datum = 255 ∧
    (((sMerge [] 1).src 23).queue = [] ∧ 1 ≤ (sMerge [] 1).freeCount) ∧
    (((sMerge [] 0).src 23).queue = [] ∧ (sMerge [] 0).freeCount = 0) := by decide

theorem witness_AdmissionsWithRoomCommute : (ev 0 .rise 0 0).source ≠ (ev 20 .interval 0 1).source ∧ 2 ≤ (sQueue 4 .keepOldest [] 2).freeCount := by
  decide

theorem witness_PostMakesOneArrivalAndLeavesItsAnswer :
    (∀ n ∈ [16, 19], let s : State := { State.reset with postSrc := BitVec.ofNat 8 n }
      s.resetLow = false ∧ s.postSrc.toNat = n ∧ (s.src 16).admitOn = false) ∧
    (let s : State := { State.reset.setSrc 16 (on 16 0 []) with postSrc := 16 }
     s.resetLow = false ∧ s.postSrc.toNat = (16 : Fin 24).val ∧ (s.src 16).admitOn = true ∧ (s.src 16).queue.length < (s.src 16).quota ∧
      1 ≤ s.freeCount) ∧
    (∀ b ∈ [(15 : Byte), 20], b.toNat < 16 ∨ 20 ≤ b.toNat) := by decide

theorem witness_BidsLieInTheRangeOfTheirClass :
    sNest.SourcesInRange ∧ (sNest.src 18).cls.toNat < (sNest.src 6).cls.toNat ∧ isInterval 20 = true := by decide

theorem witness_WinnerIsTheHighestBidOfLowestNumber :
    sAging.winner = some 4 ∧ sAging.SourcesInRange ∧ sAging.eligible 12 = true ∧ sNest.winner = some 6 ∧
      (after .grant sNest).stack.length ≠ sNest.stack.length ∧ exec .grant sNest = .next (after .grant sNest) := by
  refine ⟨by decide, by decide, by decide, by decide, by decide, rfl⟩

theorem witness_GrantConditionByStackDepth :
    (sAging.winner = some 4 ∧ sAging.stack = [] ∧ sAging.SourcesInRange) ∧
    ((sOver five 9 1).winner = some 9 ∧ (sOver five 9 1).stack = cx 1 0 0 :: five.tail ∧ (sOver five 9 1).stack.length ≤ 5) ∧
    ((sOver (cx 7 0 0 :: five) 9 1).winner = some 9 ∧ 6 ≤ (sOver (cx 7 0 0 :: five) 9 1).stack.length) ∧ State.reset.winner = none := by decide

theorem witness_GrantPushesAContextForTheWinner :
    ((sOver five 9 1).resetLow = false ∧ (sOver five 9 1).winner = some 9 ∧ (sOver five 9 1).grantCondition = true ∧
      (sOver five 9 1).stack = cx 1 0 0 :: five.tail) ∧
    (sNest.resetLow = false ∧ sNest.winner = some 6 ∧ sNest.grantCondition = true) := by decide

theorem witness_AfterAPushTheGrantConditionFails :
    sNest.SourcesInRange ∧ exec .grant sNest = .next (after .grant sNest) ∧
      (after .grant sNest).stack.length = sNest.stack.length + 1 := ⟨by decide, rfl, by decide⟩

theorem witness_GrantThatFindsNoGrantChangesNothing :
    ∀ s ∈ [State.reset, sAging, sOver five 9 0, sOver (cx 7 0 0 :: five) 9 1], s.resetLow = false ∧ s.grantCondition = false := by decide

theorem witness_TakeOnAnEmptyStackAnswersNoContext : sNest.resetLow = false ∧ sNest.stack = [] := by decide

theorem witness_TakeDeliversTheHeadRecord :
    let s := sPool 1
    s.resetLow = false ∧ s.stack = cx 3 32 1 :: [] ∧ (s.src (cx 3 32 1).source).queue = ev 3 .fall 1 0 :: [ev 3 .rise 2 8] := by decide

theorem witness_TakeOnAnEmptyQueueAnswersEmpty :
    sServed.resetLow = false ∧ sServed.stack = cxb 6 32 1 96 .running :: [] ∧
      (sServed.src (cxb 6 32 1 96 .running).source).queue = [] := by decide

theorem witness_EndServicePopsTheTopOrRefuses :
    (sNest.resetLow = false ∧ sNest.stack = []) ∧
    (sThree.resetLow = false ∧ sThree.stack = cxb 22 192 6 19 .running :: [cx 18 96 3, cxb 6 32 1 90 .paused]) ∧
    24 ≤ (24 : Byte).toNat ∧
    ((18 : Byte).toNat < 24 ∧ (18 : Byte).toNat ≠ 22 ∧ ∃ d ∈ sThree.stack.tail, d.source.val = (18 : Byte).toNat) ∧
    ((23 : Byte).toNat < 24 ∧ (23 : Byte).toNat ≠ 22 ∧ ∀ d ∈ sThree.stack.tail, d.source.val ≠ (23 : Byte).toNat) ∧
    ((22 : Byte).toNat = (cxb 22 192 6 19 .running).source.val ∧ ∀ n : Fin 16, n.val ≠ (cxb 22 192 6 19 .running).source.val) ∧
    (let s := withLine sServed 6 (line false .levelHigh 3 0)
     s.stack = cxb 6 32 1 96 .running :: [] ∧ (6 : Byte).toNat = (cxb 6 32 1 96 .running).source.val ∧
      ∀ n : Fin 16, n.val = 6 → s.lines[n].mode = .levelHigh ∧ s.lines[n].qual = false) := by decide

theorem witness_PopReassertsAnActiveLevelSource :
    (∀ s ∈ [sServed.setSrc 6 (on 6 1 []), sServed.setSrc 6 { on 6 1 [] with admitOn := false }, { sServed with freeCount := 0 }],
      s.resetLow = false ∧ s.stack = cxb 6 32 1 96 .running :: [] ∧ (6 : Byte).toNat = (cxb 6 32 1 96 .running).source.val ∧
      s.lines[6].seeded = true ∧ s.lines[6].mode = .levelHigh ∧ s.lines[6].qual = true ∧ (s.src 6).queue = []) ∧
    (1 ≤ sServed.freeCount ∧ (sServed.src 6).admitOn = true ∧ 1 ≤ (sServed.src 6).quota) := by decide

theorem witness_UnwindEndsEveryService :
    (sNest.resetLow = false ∧ sNest.stack = []) ∧ (sThree.resetLow = false ∧ sThree.stack ≠ [] ∧ (sThree.stack.map Context.source).Nodup) ∧
    (∀ s ∈ [sThree, { sThree with freeCount := 0 }],
      (∀ c ∈ s.stack, 1 ≤ (s.src c.source).quota) ∧
      (s.stack.filter fun c => decide ((s.src c.source).admitOn = true ∧ (s.src c.source).queue = [] ∧
        ∃ n : Fin 16, n.val = c.source.val ∧ s.lines[n].active = true)) = [cxb 6 32 1 90 .paused]) ∧
    0 < sThree.freeCount ∧ sThree.onStack 5 = false := by decide

theorem witness_FlushReleasesOneQueue :
    sNest.resetLow = false ∧ (23 : Byte).toNat = (23 : Fin 24).val ∧ 24 ≤ (24 : Byte).toNat := by decide

theorem witness_ClearEmptiesThePartAndReasserts :
    sThree.resetLow = false ∧ sThree.SourcesInRange ∧ sThree.lowMark ≤ 63 ∧ sThree.lines[6].active = true ∧
      (sThree.src (lineSource 6)).admitOn = true := by decide

theorem witness_TimerArmAndStop : State.reset.resetLow = false ∧ (3 : Byte).toNat = (3 : Fin 4).val ∧ 4 ≤ (4 : Byte).toNat := by decide

/-- Timer 3 about to expire, with source 23 as given. -/
def sExpiring (m : TimerMode) (q : Source) (free : Nat) : State :=
  { State.reset.setSrc 23 q with
    timers := State.reset.timers.set 3 { period := 9, mode := m, running := true, count := 1 }, freeCount := free }

theorem witness_TimerExpiryMakesItsArrivalAndContinues :
    (∀ s ∈ [sExpiring .oneShot (Source.reset 23) 64, sExpiring .repeating (on 23 0 [ev 23 .interval 0 254]) 63, sExpiring .oneShot (on 23 0 []) 1],
      s.tbRun = true ∧ s.resetLow = false ∧ s.timers[3].running = true ∧ s.timers[3].count = 1) ∧
    ((sExpiring .oneShot (Source.reset 23) 64).src (timerSource 3)).admitOn = false ∧
    (((sExpiring .repeating (on 23 0 [ev 23 .interval 0 254]) 63).src (timerSource 3)).queue = [ev 23 .interval 0 254] ∧
      (ev 23 .interval 0 254).datum ≠ 255) ∧
    (((sExpiring .oneShot (on 23 0 []) 1).src (timerSource 3)).queue = [] ∧ 1 ≤ (sExpiring .oneShot (on 23 0 []) 1).freeCount) := by decide

theorem witness_AgingExpiryGivesOneCreditToEveryEligibleSource :
    (sAging.tbRun = true ∧ sAging.resetLow = false ∧ sAging.agePeriod ≠ 0 ∧ sAging.agingCount = 1) ∧
    (sAging.eligible 4 = true ∧ (sAging.src 4).credits < 16 ∧ sAging.eligible 5 = false) ∧
    (let s : State := { sOver five 9 1 with agePeriod := 1, agingCount := 1 }
     s.tbRun = true ∧ s.resetLow = false ∧ s.agePeriod ≠ 0 ∧ s.agingCount = 1 ∧ s.stack ≠ [] ∧ s.SourcesInRange) := by decide

theorem witness_BudgetExpiryExpiresTheTopContext :
    let c := cxb 7 32 1 1 .running
    let s : State := { sOver [c] 9 2 with budgets := State.reset.budgets.set 1 { budget := 5, action := .demote } }
    s.tbRun = true ∧ s.resetLow = false ∧ s.stack = c :: [] ∧ c.bstate = .running ∧ c.remaining = 1 ∧
      (s.budgets[c.heldClass.toNat]'c.heldClass.isLt).action = .demote ∧ s.stack.length ≤ 5 ∧ s.winner = some 9 ∧
      1 ≤ (s.src 9).cls.toNat := by decide

theorem witness_ExpiriesThatAreNotDueDoNothing :
    sStopped.tbRun = false ∧ State.reset.timers[0].running = false ∧ State.reset.agePeriod = 0 ∧ State.reset.stack = [] ∧
    (sServed.stack = cxb 6 32 1 96 .running :: [] ∧ (cxb 6 32 1 96 .running).remaining ≠ 1) := by decide

theorem witness_TickAdvancesTimeAndKeepsTheSettings :
    let s : State := { sServed with timestamp := 65535 }
    s.tbRun = true ∧ s.resetLow = false ∧ s.timestamp = 65535 := by decide

theorem witness_TickSeedsOrQualifiesEachLine :
    let s := withLine (withLine (withLine State.reset 1 (line true .rise 3 0)) 2 (line false .rise 3 1)) 3 (line false .rise 3 2)
    let w : Word := 0xFFFF
    s.tbRun = true ∧ s.resetLow = false ∧ s.lines[0].seeded = false ∧
    (s.lines[1].seeded = true ∧ w.getLsbD 1 = s.lines[1].qual) ∧
    (s.lines[2].seeded = true ∧ w.getLsbD 2 ≠ s.lines[2].qual ∧ s.lines[2].run + 1 < s.lines[2].filter) ∧
    (s.lines[3].seeded = true ∧ w.getLsbD 3 ≠ s.lines[3].qual ∧ s.lines[3].filter ≤ s.lines[3].run + 1) := by decide

/-- Line 0 qualifies a rise at the next high sample; source 0 is as given. -/
def sRising (q : Source) (free : Nat) : State := { withLine (State.reset.setSrc 0 q) 0 (line false .rise 1 0) with freeCount := free }

theorem witness_TickMakesTheArrivalOfAQualifiedTransition :
    (∀ s ∈ [sRising (on 0 0 []) 20, sRising (on 0 0 []) 0, sRising { on 0 0 [ev 0 .rise 0 0] with policy := .keepNewest } 0,
        sRising { on 0 0 [ev 0 .rise 0 0] with quota := 1 } 0, sRising { on 0 0 [ev 0 .rise 0 0] with quota := 1, policy := .keepNewest } 0],
      s.tbRun = true ∧ s.resetLow = false ∧ s.lines[0].seeded = true ∧ (1 : Word).getLsbD 0 ≠ s.lines[0].qual ∧
      s.lines[0].filter ≤ s.lines[0].run + 1 ∧ s.lines[0].mode = .rise ∧ (s.src (lineSource 0)).admitOn = true) ∧
    ((sRising (Source.reset 0) 64).src 0).admitOn = false ∧
    (((sRising (on 0 0 []) 20).src 0).queue.length < ((sRising (on 0 0 []) 20).src 0).quota ∧ 20 ≤ (sRising (on 0 0 []) 20).freeCount) := by decide

theorem witness_TickCountsTheTimers :
    (∀ s ∈ [sExpiring .repeating (on 23 0 [ev 23 .interval 0 254]) 63, sExpiring .repeating (on 23 0 [ev 23 .interval 0 255]) 63,
        sExpiring .oneShot (on 23 0 []) 20, sExpiring .oneShot (on 23 0 []) 0],
      s.tbRun = true ∧ s.resetLow = false ∧ s.timers[3].running = true ∧ s.timers[3].count = 1 ∧ s.timers[0].running = false ∧
      (s.src (timerSource 3)).admitOn = true) ∧
    ((sExpiring .oneShot (Source.reset 23) 64).src (timerSource 3)).admitOn = false ∧
    (let t : Timer := { period := 0, mode := .oneShot, running := true, count := 0 }
     t.running = true ∧ t.count ≠ 1) := by decide

theorem witness_TickCountsTheAgingPeriod :
    (sAging.tbRun = true ∧ sAging.resetLow = false ∧ sAging.agePeriod ≠ 0 ∧ sAging.agingCount = 1 ∧ sAging.eligible 4 = true ∧
      (sAging.src 4).credits < 16 ∧ (sAging.src 0).bid = false ∧ sAging.eligible 5 = false ∧
      ((after (.tick 0) sAging).src 5).queue = (sAging.src 5).queue) ∧ State.reset.agePeriod = 0 ∧
    (let s : State := { sAging with agingCount := 50 }
     s.agePeriod ≠ 0 ∧ s.agingCount ≠ 1) := by decide

theorem witness_TickCountsTheTopBudget :
    (State.reset.tbRun = true ∧ State.reset.resetLow = false ∧ State.reset.stack = []) ∧
    (∀ c ∈ [cx 7 0 0, cxb 7 32 1 2 .running, cxb 7 32 1 1 .running], let s : State := { State.reset with stack := [c] }
      s.tbRun = true ∧ s.resetLow = false ∧ s.stack = c :: []) ∧
    (cx 7 0 0).bstate ≠ .running ∧ (cxb 7 32 1 2 .running).remaining ≠ 1 := by decide

theorem witness_SourcePageWritesStoreTheSelectedRecord :
    ∀ n ∈ [0, 23, 24], let s : State := { State.reset with srcSel := BitVec.ofNat 8 n }
      s.resetLow = false ∧ (s.srcSel.toNat = n) := by decide

theorem witness_SrcCfgReadsBackWhatItStored :
    (State.reset.resetLow = false ∧ State.reset.srcSel.toNat = (0 : Fin 24).val ∧
      exec (.srcCfg 0x17) State.reset = .next (after (.srcCfg 0x17) State.reset)) ∧
    (let s : State := { State.reset with srcSel := 23 }
     s.resetLow = false ∧ s.srcSel.toNat = (23 : Fin 24).val ∧ (s.src 23).policy = .coalesce ∧
      exec (.srcCfg 0x17) s = .next (after (.srcCfg 0x17) s)) :=
  ⟨⟨by decide, by decide, rfl⟩, by decide, by decide, by decide, rfl⟩

theorem witness_SrcLineSetsModeAndFilterAndMayReassert :
    (∀ a ∈ [true, false], ∀ free ∈ [0, 1],
      let s : State := { withLine (State.reset.setSrc 15 { on 15 0 [] with admitOn := a }) 15 (line true .off 3 0) with
        srcSel := 15, freeCount := free }
      s.resetLow = false ∧ s.srcSel.toNat = (15 : Fin 16).val ∧ s.lines[15].mode ≠ .levelHigh ∧
      ({ s with dataOut := none, lines := s.lines.set 15 { s.lines[15] with mode := .levelHigh, filter := 3 } } : State).lines[15].active = true ∧
      (s.src (lineSource 15)).queue = [] ∧ s.onStack (lineSource 15) = false ∧ (s.src (lineSource 15)).admitOn = a ∧
      1 ≤ (s.src (lineSource 15)).quota ∧ s.freeCount = free) ∧
    (State.reset.resetLow = false ∧ State.reset.srcSel.toNat = (0 : Fin 16).val) ∧ 16 ≤ (16 : Byte).toNat := by decide

theorem witness_ByteRegistersStoreTheirField : State.reset.resetLow = false ∧ State.reset.lowMark ≤ 63 := by decide

theorem witness_AlertLineFollowsTheEnabledFlags : State.reset.resetLow = false ∧ sLow.resetLow = true := by decide

theorem witness_WideWritesHoldTheLowByteAndJoinTheHigh :
    let s : State := { State.reset with timerSel := 3, budgetSel := 7 }
    s.resetLow = false ∧ s.timerSel.toNat < 4 ∧ s.budgetSel.toNat < 8 := by decide

theorem witness_PageWritesReachTheSelectedTimerOrClass :
    (let s : State := { State.reset with timerSel := 3, budgetSel := 7 }
     s.resetLow = false ∧ s.timerSel.toNat = (3 : Fin 4).val ∧ s.budgetSel.toNat = (7 : Fin 8).val) ∧
    (let s : State := { State.reset with timerSel := 4, budgetSel := 8 }
     s.resetLow = false ∧ 4 ≤ s.timerSel.toNat ∧ 8 ≤ s.budgetSel.toNat) := by decide

theorem witness_TbCtrlStopsAndStartsTheTimebase :
    (State.reset.resetLow = false ∧ (1 : Byte).getLsbD 0 = State.reset.tbRun) ∧
    (sStopped.resetLow = false ∧ (1 : Byte).getLsbD 0 = true ∧ sStopped.tbRun = false) ∧
    ((0xFE : Byte).getLsbD 0 = false ∧ State.reset.tbRun = true) := by decide

theorem witness_LowByteReadLatchesTheHighByte :
    (let s : State := { State.reset with timerSel := 4, budgetSel := 8, ctxSel := 0 }
     s.resetLow = false ∧ View.stamp ≠ View.tbDiv ∧ 4 ≤ s.timerSel.toNat ∧ 8 ≤ s.budgetSel.toNat ∧ s.stack.length ≤ s.ctxSel.toNat) ∧
    (let s : State := { sServed with timerSel := 3, budgetSel := 7 }
     s.resetLow = false ∧ s.timerSel.toNat = (3 : Fin 4).val ∧ s.budgetSel.toNat = (7 : Fin 8).val ∧
      s.stack[s.ctxSel.toNat]? = some (cxb 6 32 1 96 .running)) := by decide

theorem witness_RegisterWriteStoresASelectorOrIsIgnored :
    State.reset.resetLow = false ∧ (Instr.registerWrite .winner 1).wf = true ∧
      Reg.winner ∉ ([.srcSel, .ctxSel, .timerSel, .budgetSel, .postSrc] : List Reg) := by decide

theorem witness_LatchesAndAnswerChangeOnlyAtTheirCommands :
    (Instr.wf .grant = true ∧ exec .grant sNest = .next (after .grant sNest)) ∧ Instr.grant ≠ .resetNLow ∧ Instr.grant ≠ .resetNRelease ∧
      Instr.grant ≠ .take ∧ Instr.grant ≠ .lowByteRead .stamp ∧ sNest.latch.missed ≤ 255 := ⟨⟨rfl, rfl⟩, by decide, by decide, by decide, by decide, by decide⟩

theorem witness_StackDepthAndAlertFlagsChangeOnlyAtTheirCommands :
    (Instr.wf .take = true ∧ exec .take sServed = .next (after .take sServed)) ∧ Instr.take ≠ .resetNLow ∧ Instr.take ≠ .resetNRelease ∧
      Instr.take ≠ .grant ∧ Instr.take ≠ .budgetExpiry := ⟨⟨rfl, rfl⟩, by decide, by decide, by decide, by decide⟩

theorem witness_ReadsShowTheDerivedState :
    (∀ s ∈ [sServed, { sServed with ctxSel := 1, srcSel := 24 }, { sServed with srcSel := 23 }], s.SourcesInRange ∧ s.StackSound) ∧
    (sServed.srcSel.toNat = (0 : Fin 24).val ∧ (0 : Fin 16).val = (0 : Fin 24).val ∧ sServed.lines[0].filter ≤ 15) ∧
    sServed.stack[sServed.ctxSel.toNat]? = some (cxb 6 32 1 96 .running) ∧ 24 ≤ (24 : Byte).toNat ∧ sServed.stack.length ≤ (1 : Byte).toNat := by
  decide

/-- A state in service with a command waiting meets every invariant that the statements about all steps take as premise. -/
theorem witness_EveryStepKeeps :
    let s : State := { sServed with freeCount := 63, pending := [.grant], agePeriod := 50, agingCount := 50, clkCount := 999 }
    s.SourcesInRange ∧ s.PoolBalanced ∧ s.CreditsCleared ∧ s.StackSound ∧ s.LinesInRange ∧ s.AgingSound ∧ s.ClockSound ∧ s.LatchSound := by decide

/-- That state steps to a next state. -/
theorem witness_EveryStepKeeps_steps :
    let s : State := { sServed with freeCount := 63, pending := [.grant], agePeriod := 50, agingCount := 50, clkCount := 999 }
    step s = .next (after .grant { s with pending := [] }) := rfl

end Sys2Proof.Tests
end

section
/-! Admission of an arrival to a line or posted source (01, section 4): each loss, displacement and append as one record update, the outcome
of `enqueue` for each of its branches, and the statements about R12 to R15. -/

namespace Sys2Proof.Machine

/-! ### The effects as record updates -/

/-- A loss as one record update (R16). -/
theorem State.lose_eq (s : State) (i : Fin 24) :
    s.lose i = { s.setSrc i { s.src i with missed := min 255 ((s.src i).missed + 1) } with
      flags := { s.flags with missed := true } } := rfl

/-- A displacement as one record update, for a queue with a head (R13). -/
theorem State.displace_eq {s : State} {r e : Record} {rest : List Record} (hq : (s.src r.source).queue = e :: rest) :
    s.displace r = { s.setSrc r.source { s.src r.source with
        queue := rest ++ [r], missed := min 255 ((s.src r.source).missed + 1) } with
      flags := { s.flags with missed := true } } := by
  simp [State.displace, State.lose_eq, hq]

/-- A loss at the empty pool as one record update (R15). -/
theorem State.setPoolEmpty_lose_eq (s : State) (i : Fin 24) :
    s.setPoolEmpty.lose i = { s.setSrc i { s.src i with missed := min 255 ((s.src i).missed + 1) } with
      flags := { s.flags with poolEmpty := true, missed := true } } := rfl

/-- A displacement at the empty pool as one record update (R15). -/
theorem State.setPoolEmpty_displace_eq {s : State} {r e : Record} {rest : List Record} (hq : (s.src r.source).queue = e :: rest) :
    s.setPoolEmpty.displace r = { s.setSrc r.source { s.src r.source with
        queue := rest ++ [r], missed := min 255 ((s.src r.source).missed + 1) } with
      flags := { s.flags with poolEmpty := true, missed := true } } :=
  State.displace_eq (s := s.setPoolEmpty) hq

/-- An append into a fresh slot as one record update (R14). -/
theorem State.allocate_append_eq (s : State) (r : Record) :
    s.allocate.append r = { s.setSrc r.source { s.src r.source with queue := (s.src r.source).queue ++ [r] } with
      freeCount := s.freeCount - 1
      flags := { s.flags with poolLow := s.flags.poolLow || decide (s.freeCount = s.lowMark) } } := by
  unfold State.append
  rw [State.allocate_src, State.allocate_eq]
  rfl

/-! ### The branches of admission -/

/-- With ADMIT on, an arrival for a line or posted source goes to the queue and the pool (R10). -/
theorem State.admitArrival_eq_enqueue {s : State} {r : Record} (hi : isInterval r.source = false)
    (ha : (s.src r.source).admitOn = true) : s.admitArrival r = s.enqueue r := by
  simp [State.admitArrival, hi, ha]

/-- A full queue discards the arrival under every policy but KEEP_NEWEST (R12). -/
theorem State.enqueue_full_lose {s : State} {r : Record} (hf : (s.src r.source).quota ≤ (s.src r.source).queue.length)
    (hp : (s.src r.source).policy ≠ .keepNewest) : s.enqueue r = (.dropped, s.lose r.source) := by
  simp [State.enqueue, hf, hp]

/-- A full KEEP_NEWEST queue is displaced (R13). -/
theorem State.enqueue_full_displace {s : State} {r : Record} (hf : (s.src r.source).quota ≤ (s.src r.source).queue.length)
    (hp : (s.src r.source).policy = .keepNewest) : s.enqueue r = (.replaced, s.displace r) := by
  simp [State.enqueue, hf, hp]

/-- A queue with room, with a slot free, takes the arrival (R14). -/
theorem State.enqueue_room_append {s : State} {r : Record} (hr : (s.src r.source).queue.length < (s.src r.source).quota)
    (hs : s.freeCount ≠ 0) : s.enqueue r = (.ok, s.allocate.append r) := by
  simp [State.enqueue, hr.not_ge, hs]

/-- At the empty pool a queue with room discards the arrival unless its policy is KEEP_NEWEST and it has a head (R15). -/
theorem State.enqueue_empty_pool_lose {s : State} {r : Record} (hr : (s.src r.source).queue.length < (s.src r.source).quota)
    (hs : s.freeCount = 0) (hp : ¬ ((s.src r.source).policy = .keepNewest ∧ (s.src r.source).queue ≠ [])) :
    s.enqueue r = (.dropped, s.setPoolEmpty.lose r.source) := by
  simp only [State.enqueue, hr.not_ge, hs, hp, if_true, if_false]

/-- At the empty pool a KEEP_NEWEST queue with room and a head is displaced (R15). -/
theorem State.enqueue_empty_pool_displace {s : State} {r : Record} (hr : (s.src r.source).queue.length < (s.src r.source).quota)
    (hs : s.freeCount = 0) (hp : (s.src r.source).policy = .keepNewest) (hq : (s.src r.source).queue ≠ []) :
    s.enqueue r = (.replaced, s.setPoolEmpty.displace r) := by
  simp [State.enqueue, hr.not_ge, hs, hp, hq]

/-! ### The statements -/

/-- Settles O9: the full branch of `enqueue` loses the arrival, and a loss touches the missed count and MISSED alone. -/
theorem fullKeepOldestQueueDiscardsTheArrival : Obligations.FullKeepOldestQueueDiscardsTheArrival := by
  intro s r hi ha hf hp
  have hne : (s.src r.source).policy ≠ .keepNewest := by simp [hp]
  rw [State.admitArrival_eq_enqueue hi ha, State.enqueue_full_lose hf hne, State.lose_eq]

/-- Settles O10: the full branch of `enqueue` displaces the head, one record out and one in. -/
theorem fullKeepNewestQueueDisplacesItsHead : Obligations.FullKeepNewestQueueDisplacesItsHead := by
  intro s r e rest hi ha hq hf hp
  rw [← hq] at hf
  constructor
  · rw [State.admitArrival_eq_enqueue hi ha, State.enqueue_full_displace hf hp, State.displace_eq hq]
  · simp

/-- Settles O11: with room and a free slot `enqueue` allocates and appends. -/
theorem queueWithRoomAppendsTheArrival : Obligations.QueueWithRoomAppendsTheArrival := by
  intro s r hi ha hr hs
  have hne : s.freeCount ≠ 0 := by omega
  rw [State.admitArrival_eq_enqueue hi ha, State.enqueue_room_append hr hne, State.allocate_append_eq]

/-- Settles O12: at the empty pool `enqueue` discards or displaces, by the policy and by whether the queue has a head. -/
theorem queueWithRoomMeetsTheEmptyPool : Obligations.QueueWithRoomMeetsTheEmptyPool := by
  intro s r hi ha hr hs
  rw [State.admitArrival_eq_enqueue hi ha]
  constructor
  · intro hkeep
    have hp : ¬ ((s.src r.source).policy = .keepNewest ∧ (s.src r.source).queue ≠ []) := by
      rintro ⟨hnew, hhead⟩
      rcases hkeep with hold | ⟨-, hnil⟩
      · simp [hnew] at hold
      · exact hhead hnil
    rw [State.enqueue_empty_pool_lose hr hs hp, State.setPoolEmpty_lose_eq]
  · intro e rest hp hq
    have hhead : (s.src r.source).queue ≠ [] := by simp [hq]
    rw [State.enqueue_empty_pool_displace hr hs hp hhead, State.setPoolEmpty_displace_eq hq]

end Sys2Proof.Machine
end

section
/-! Arbitration (05, sections 1 and 2): one source outbids another, the best source of an ascending list, the arbitration's fold as that
best source, and the statement about R85. -/

namespace Sys2Proof.Machine

/-! ### One source outbids another -/

/-- Source `w` comes before source `i` in the arbitration: the higher bid, or the same bid and the lower number (R85). -/
def State.Outbids (s : State) (w i : Fin 24) : Prop :=
  s.bidOf i < s.bidOf w ∨ (s.bidOf i = s.bidOf w ∧ w.val < i.val)

/-- Of two sources at most one outbids the other. -/
theorem State.Outbids.asymm {s : State} {w i : Fin 24} (h : s.Outbids w i) : ¬ s.Outbids i w := by
  unfold State.Outbids at *
  omega

/-- What outbids the outbidder outbids the outbid. -/
theorem State.Outbids.trans {s : State} {u w i : Fin 24} (h : s.Outbids u w) (k : s.Outbids w i) : s.Outbids u i := by
  unfold State.Outbids at *
  omega

/-- The outbid source's bid is not the higher one. -/
theorem State.Outbids.bidOf_le {s : State} {w i : Fin 24} (h : s.Outbids w i) : s.bidOf i ≤ s.bidOf w := by
  unfold State.Outbids at h
  omega

/-! ### The best of a list -/

/-- `w` is the best source of the list `l`: an eligible one that outbids every other eligible one. -/
structure State.BestOf (s : State) (l : List (Fin 24)) (w : Fin 24) : Prop where
  mem : w ∈ l
  eligible : s.eligible w = true
  outbids : ∀ i ∈ l, s.eligible i = true → i ≠ w → s.Outbids w i

/-- A list has at most one best source. -/
theorem State.BestOf.unique {s : State} {l : List (Fin 24)} {v w : Fin 24} (hv : s.BestOf l v) (hw : s.BestOf l w) : v = w := by
  by_contra hne
  have hvw : s.Outbids v w := hv.outbids w hw.mem hw.eligible (Ne.symm hne)
  have hwv : s.Outbids w v := hw.outbids v hv.mem hv.eligible hne
  exact hvw.asymm hwv

/-- The best source stays the best when the source appended is not eligible or is outbid by it. -/
theorem State.BestOf.append_kept {s : State} {l : List (Fin 24)} {w i : Fin 24} (h : s.BestOf l w)
    (hi : s.eligible i = true → s.Outbids w i) : s.BestOf (l ++ [i]) w where
  mem := List.mem_append_left _ h.mem
  eligible := h.eligible
  outbids := by
    intro j hj he hne
    rcases List.mem_append.mp hj with hl | hs
    · exact h.outbids j hl he hne
    · obtain rfl := List.mem_singleton.mp hs
      exact hi he

/-- An eligible source appended becomes the best when it outbids every eligible source before it. -/
theorem State.bestOf_append_new {s : State} {l : List (Fin 24)} {i : Fin 24} (he : s.eligible i = true)
    (hl : ∀ j ∈ l, s.eligible j = true → s.Outbids i j) : s.BestOf (l ++ [i]) i where
  mem := List.mem_append_right _ (List.mem_singleton.mpr rfl)
  eligible := he
  outbids := by
    intro j hj hej hne
    rcases List.mem_append.mp hj with hm | hs
    · exact hl j hm hej
    · exact absurd (List.mem_singleton.mp hs) hne

/-- What outbids the best source outbids every eligible source of the list. -/
theorem State.BestOf.outbids_of_outbidder {s : State} {l : List (Fin 24)} {u w : Fin 24} (h : s.BestOf l w) (hu : s.Outbids u w) :
    ∀ j ∈ l, s.eligible j = true → s.Outbids u j := by
  intro j hj he
  by_cases hjw : j = w
  · rw [hjw]
    exact hu
  · exact hu.trans (h.outbids j hj he hjw)

/-! ### The fold finds the best -/

/-- `best` is the outcome of an arbitration over the list `l`: the best source, or none when no source of the list is eligible. -/
def State.Arbitrated (s : State) (l : List (Fin 24)) : Option (Fin 24) → Prop
  | none => ∀ i ∈ l, s.eligible i = false
  | some w => s.BestOf l w

/-- One step of the arbitration at a source above the list's keeps the outcome right: the higher number wins by a higher bid alone. -/
theorem State.Arbitrated.better {s : State} {l : List (Fin 24)} {best : Option (Fin 24)} {i : Fin 24} (h : s.Arbitrated l best)
    (habove : ∀ j ∈ l, j < i) : s.Arbitrated (l ++ [i]) (s.better best i) := by
  unfold State.better
  cases he : s.eligible i with
  | false =>
    cases best with
    | none =>
      intro j hj
      rcases List.mem_append.mp hj with hl | hs
      · exact h j hl
      · rw [List.mem_singleton.mp hs]
        exact he
    | some w => exact State.BestOf.append_kept h (by simp [he])
  | true =>
    cases best with
    | none =>
      have hnone : ∀ j ∈ l, s.eligible j = false := h
      exact State.bestOf_append_new he fun j hj hej => by simp [hnone j hj] at hej
    | some w =>
      have hbest : s.BestOf l w := h
      by_cases hlt : s.bidOf w < s.bidOf i
      · simp only [hlt, if_true]
        exact State.bestOf_append_new he (hbest.outbids_of_outbidder (.inl hlt))
      · simp only [hlt, if_true, if_false]
        have hwi : w.val < i.val := habove w hbest.mem
        have hout : s.Outbids w i := by
          unfold State.Outbids
          omega
        exact hbest.append_kept fun _ => hout

/-- The arbitration over an ascending list finds its best source. -/
theorem State.arbitrated_foldl_better (s : State) (l : List (Fin 24)) (hl : l.Pairwise (· < ·)) :
    s.Arbitrated l (l.foldl s.better none) := by
  induction l using List.reverseRecOn with
  | nil =>
    intro i hi
    exact absurd hi List.not_mem_nil
  | append_singleton l i ih =>
    obtain ⟨hinit, -, habove⟩ := List.pairwise_append.mp hl
    rw [List.foldl_append]
    exact (ih hinit).better fun j hj => habove j hj i (List.mem_singleton.mpr rfl)

/-- Every source takes part in the arbitration. -/
theorem mem_allSources (i : Fin 24) : i ∈ allSources := List.mem_finRange i

/-- The winner is the arbitration's outcome over all sources (R85). -/
theorem State.arbitrated_winner (s : State) : s.Arbitrated allSources s.winner :=
  s.arbitrated_foldl_better allSources (List.pairwise_lt_finRange 24)

/-- The winner is the best of all sources (R85). -/
theorem State.bestOf_of_winner {s : State} {w : Fin 24} (h : s.winner = some w) : s.BestOf allSources w := by
  have hw := s.arbitrated_winner
  rw [h] at hw
  exact hw

/-- Without a winner no source is eligible (R85). -/
theorem State.ineligible_of_no_winner {s : State} (h : s.winner = none) (i : Fin 24) : s.eligible i = false := by
  have hn := s.arbitrated_winner
  rw [h] at hn
  exact hn i (mem_allSources i)

/-- A source is the winner exactly when it is the best of all sources (R85). -/
theorem State.winner_eq_some_iff_bestOf {s : State} {w : Fin 24} : s.winner = some w ↔ s.BestOf allSources w := by
  refine ⟨State.bestOf_of_winner, fun hbest => ?_⟩
  cases hw : s.winner with
  | none =>
    have hin : s.eligible w = false := State.ineligible_of_no_winner hw w
    simp [hbest.eligible] at hin
  | some v => rw [(State.bestOf_of_winner hw).unique hbest]

/-- A source is the winner exactly when it is eligible and outbids every other eligible source (R85). -/
theorem State.winner_eq_some_iff {s : State} {w : Fin 24} :
    s.winner = some w ↔ s.eligible w = true ∧ ∀ i : Fin 24, s.eligible i = true → i ≠ w → s.Outbids w i := by
  rw [State.winner_eq_some_iff_bestOf]
  constructor
  · rintro ⟨-, he, hout⟩
    exact ⟨he, fun i => hout i (mem_allSources i)⟩
  · rintro ⟨he, hout⟩
    exact ⟨mem_allSources w, he, fun i _ => hout i⟩

/-- There is no winner exactly when no source is eligible (R85). -/
theorem State.winner_eq_none_iff {s : State} : s.winner = none ↔ ∀ i : Fin 24, s.eligible i = false := by
  refine ⟨State.ineligible_of_no_winner, fun hnone => ?_⟩
  cases hw : s.winner with
  | none => rfl
  | some w =>
    have he : s.eligible w = true := (State.bestOf_of_winner hw).eligible
    simp [hnone w] at he

/-- No eligible source bids higher than the winner (R85). -/
theorem State.bidOf_le_of_winner {s : State} {w i : Fin 24} (hw : s.winner = some w) (he : s.eligible i = true) :
    s.bidOf i ≤ s.bidOf w := by
  obtain ⟨-, hout⟩ := State.winner_eq_some_iff.mp hw
  by_cases hi : i = w
  · rw [hi]
  · exact (hout i he hi).bidOf_le

/-! ### The range of a bid -/

/-- The depth bonus of a queue of at most 16 records is at most 15 (R83). -/
theorem Source.depthBonus_le {q : Source} (h : q.queue.length ≤ 16) : q.depthBonus ≤ 15 := by
  unfold Source.depthBonus
  split <;> omega

/-- A bid lies in the range of its class (R83). -/
theorem State.bidOf_bounds {s : State} (hs : s.SourcesInRange) (i : Fin 24) :
    32 * (s.src i).cls.toNat ≤ s.bidOf i ∧ s.bidOf i ≤ 32 * (s.src i).cls.toNat + 31 := by
  obtain ⟨hdepth, -, -, -, -, hcredits, -⟩ := hs i
  have hbonus := Source.depthBonus_le hdepth
  unfold State.bidOf Source.bidValue
  omega

/-- The ranges of two classes do not overlap: the source that bids no higher is of no higher class (R83). -/
theorem State.cls_le_of_bidOf_le {s : State} (hs : s.SourcesInRange) {i w : Fin 24} (h : s.bidOf i ≤ s.bidOf w) :
    (s.src i).cls.toNat ≤ (s.src w).cls.toNat := by
  obtain ⟨hlow, -⟩ := State.bidOf_bounds hs i
  obtain ⟨-, hhigh⟩ := State.bidOf_bounds hs w
  omega

/-! ### The grant -/

/-- The arbitration does not read D7 to D0. -/
@[simp] theorem State.undriven_winner (s : State) : s.undriven.winner = s.winner := rfl

/-- A push puts the new context on the paused former top (R108, R109). -/
@[simp] theorem State.push_stack (s : State) (w : Fin 24) :
    (s.push w).stack = s.newContext w :: onTop Context.pause s.stack := rfl

/-- A context pushed for a source has it as its source (R108). -/
@[simp] theorem State.newContext_source (s : State) (w : Fin 24) : (s.newContext w).source = w := rfl

/-- GRANT runs the grant unless RESET_N is low (R107, R150). -/
theorem exec_grant (s : State) : exec .grant s = .next (readUnlessReset s State.grant) := rfl

/-- GRANT leaves the stack, or leaves on it the push for the winner (R107). -/
theorem exec_grant_stack {s t : State} (h : exec .grant s = .next t) :
    t.stack = s.stack ∨ ∃ w, s.winner = some w ∧ t.stack = (s.undriven.push w).stack := by
  rw [exec_grant, Host.Outcome.next.injEq] at h
  rw [← h]
  rcases readUnlessReset_cases s State.grant with ⟨-, hr⟩ | ⟨-, hr⟩
  · exact .inl (by rw [hr, State.undriven_stack])
  · rw [hr]
    rcases s.undriven.grant_cases with ⟨-, hg⟩ | ⟨w, hw, -, -, hg⟩
    · exact .inl (by rw [hg, State.undriven_stack])
    · exact .inr ⟨w, hw, by rw [hg]⟩

/-- A grant that pushes, pushes the winner (R85). -/
theorem exec_grant_top {s t : State} {w : Fin 24} (hw : s.winner = some w) (h : exec .grant s = .next t)
    (hpush : t.stack.length ≠ s.stack.length) : t.stack.head?.map Context.source = some w := by
  rcases exec_grant_stack h with hsame | ⟨v, hv, hstack⟩
  · exact absurd (congrArg List.length hsame) hpush
  · have hvw : v = w := Option.some.inj (hv.symm.trans hw)
    simp [hstack, hvw]

/-! ### The statement -/

/-- Settles O17: the fold over the ascending sources finds the one that outbids every other eligible source, and a grant pushes the
winner or nothing. -/
theorem winnerIsTheHighestBidOfLowestNumber : Obligations.WinnerIsTheHighestBidOfLowestNumber := by
  intro s
  refine ⟨fun w => State.winner_eq_some_iff, State.winner_eq_none_iff, ?_, ?_⟩
  · intro hs w i hw he
    exact State.cls_le_of_bidOf_le hs (State.bidOf_le_of_winner hw he)
  · intro w t hw ht hpush
    exact exec_grant_top hw ht hpush

end Sys2Proof.Machine
end

section
/-! Grants and takes that find nothing to do (06, sections 3.3 and 4.2): why the grant condition fails, a grant that does not grant, a take
on an empty stack, and the statements about R110 and R114. -/

namespace Sys2Proof.Machine

/-! ### Why the grant condition fails -/

/-- On an empty stack a winner is refused exactly when its bid is below FLOOR (R94). -/
theorem State.canGrant_eq_false_iff_of_empty {s : State} (hs : s.stack = []) (w : Fin 24) :
    s.canGrant w = false ↔ s.bidOf w < s.floor.toNat := by
  simp [State.canGrant, hs]

/-- Above a top context a winner is refused exactly at the depth limit, or for a class not above the top's held class (R94). -/
theorem State.canGrant_eq_false_iff_of_top {s : State} {c : Context} {rest : List Context} (hs : s.stack = c :: rest) (w : Fin 24) :
    s.canGrant w = false ↔ 6 ≤ s.stack.length ∨ (s.src w).cls.toNat ≤ c.heldClass.toNat := by
  simp only [State.canGrant, hs, Bool.and_eq_false_iff, decide_eq_false_iff_not, Nat.not_lt]

/-- The grant condition fails exactly when there is no winner or the winner is refused (R94). -/
theorem State.grantCondition_eq_false_iff {s : State} :
    s.grantCondition = false ↔ s.winner = none ∨ ∃ w, s.winner = some w ∧ s.canGrant w = false := by
  unfold State.grantCondition
  cases s.winner <;> simp

/-- The four reasons for which a grant finds no grant (R110). -/
def State.NoGrantReason (s : State) : Prop :=
  (∀ i : Fin 24, s.eligible i = false) ∨
  (∃ w : Fin 24, s.winner = some w ∧ s.stack = [] ∧ s.bidOf w < s.floor.toNat) ∨
  (∃ (w : Fin 24) (c : Context) (rest : List Context), s.winner = some w ∧ s.stack = c :: rest ∧
    (s.src w).cls.toNat ≤ c.heldClass.toNat) ∨
  6 ≤ s.stack.length

/-- A refused winner has one of the reasons, by whether the stack holds a context (R110). -/
theorem State.noGrantReason_of_refused {s : State} {w : Fin 24} (hw : s.winner = some w) (hc : s.canGrant w = false) :
    s.NoGrantReason := by
  cases hs : s.stack with
  | nil => exact .inr (.inl ⟨w, hw, hs, (State.canGrant_eq_false_iff_of_empty hs w).mp hc⟩)
  | cons c rest =>
    rcases (State.canGrant_eq_false_iff_of_top hs w).mp hc with hdeep | hclass
    · exact .inr (.inr (.inr hdeep))
    · exact .inr (.inr (.inl ⟨w, c, rest, hw, hs, hclass⟩))

/-- Whenever the grant condition fails, one of the four reasons holds (R110). -/
theorem State.noGrantReason_of_grantCondition {s : State} (hg : s.grantCondition = false) : s.NoGrantReason := by
  rcases State.grantCondition_eq_false_iff.mp hg with hnone | ⟨w, hw, hc⟩
  · exact .inl (State.winner_eq_none_iff.mp hnone)
  · exact State.noGrantReason_of_refused hw hc

/-! ### The grant that does not grant -/

/-- The grant condition does not read D7 to D0. -/
@[simp] theorem State.undriven_grantCondition (s : State) : s.undriven.grantCondition = s.grantCondition := rfl

/-- While the grant condition fails REQ_N is released (R96). -/
theorem State.reqAsserted_eq_false {s : State} (hg : s.grantCondition = false) : s.reqAsserted = false := by
  simp [State.reqAsserted, hg]

/-- A grant without the grant condition answers 00h and has no effect (R110). -/
theorem State.grant_of_not_grantCondition {s : State} (hg : s.grantCondition = false) : s.grant = (0, s) := by
  rcases s.grant_cases with ⟨-, h⟩ | ⟨w, -, -, htrue, -⟩
  · exact h
  · simp [hg] at htrue

/-- The grant read of a bus cycle without the grant condition drives 00h and has no other effect (R110). -/
theorem readUnlessReset_grant_of_not_grantCondition {s : State} (hr : s.resetLow = false) (hg : s.grantCondition = false) :
    readUnlessReset s State.grant = { s with dataOut := some 0x00 } := by
  have hu : s.undriven.grantCondition = false := by rw [State.undriven_grantCondition, hg]
  rw [readUnlessReset_high hr, State.grant_of_not_grantCondition hu]
  rfl

/-- An acknowledge cycle is a read of GRANT, whatever CS_N and the address hold (R143). -/
theorem exec_acknowledgeCycle_eq_grant (cs : Bool) (a : BitVec 6) (s : State) : exec (.acknowledgeCycle cs a) s = exec .grant s := rfl

/-- Settles O21: without the grant condition a grant is the answer 00h alone, and the condition fails for want of a winner or by the
refusal of the winner. -/
theorem grantThatFindsNoGrantChangesNothing : Obligations.GrantThatFindsNoGrantChangesNothing := by
  intro s cs a hr hg
  have hgrant : exec .grant s = .next { s with dataOut := some 0x00 } := by
    rw [exec_grant, readUnlessReset_grant_of_not_grantCondition hr hg]
  have hack : exec (.acknowledgeCycle cs a) s = .next { s with dataOut := some 0x00 } := by
    rw [exec_acknowledgeCycle_eq_grant, hgrant]
  exact ⟨hgrant, hack, State.reqAsserted_eq_false hg, State.noGrantReason_of_grantCondition hg⟩

/-! ### The take on an empty stack -/

/-- TAKE runs the take unless RESET_N is low (R113, R150). -/
theorem exec_take (s : State) : exec .take s = .next (readUnlessReset s State.takeEvent) := rfl

/-- The latch a take on an empty stack leaves: NO_CONTEXT and nothing else (R114). -/
def EventLatch.ofNoContext : EventLatch :=
  { result := .noContext, kind := none, source := 0, datum := 0, stamp := 0, missed := 0 }

/-- The header of that latch is C0h (R152). -/
theorem EventLatch.header_ofNoContext : EventLatch.ofNoContext.header = 0xC0 := rfl

/-- A take on an empty stack sets the latch alone (R114). -/
theorem State.takeEffect_of_empty {s : State} (hs : s.stack = []) : s.takeEffect = { s with latch := .ofNoContext } := by
  simp only [State.takeEffect, hs]
  rfl

/-- A take on an empty stack answers the NO_CONTEXT header (R114). -/
theorem State.takeEvent_of_empty {s : State} (hs : s.stack = []) : s.takeEvent = (0xC0, { s with latch := .ofNoContext }) := by
  rw [State.takeEvent, State.takeEffect_of_empty hs, EventLatch.header_ofNoContext]

/-- Settles O22: on an empty stack a take is the NO_CONTEXT latch and its header. -/
theorem takeOnAnEmptyStackAnswersNoContext : Obligations.TakeOnAnEmptyStackAnswersNoContext := by
  intro s hr hs
  have hu : s.undriven.stack = [] := by rw [State.undriven_stack, hs]
  rw [exec_take, readUnlessReset_high hr, State.takeEvent_of_empty hu]
  rfl

end Sys2Proof.Machine
end

section
/-! The acknowledge cycle (08, section 1.2): the pins that make it, the grant that pushes with its byte on D7 to D0, and the statement about
R143. -/

namespace Sys2Proof.Machine

/-! ### The pins with ACK_N low -/

/-- ACK_N low with WR_N low makes no cycle, whatever RD_N and CS_N hold (R143). -/
theorem BusPins.cycle_ackLow_wrLow (cs rd : Bool) (a : BitVec 6) (d : Byte) :
    BusPins.cycle ⟨cs, rd, false, false, a, d⟩ = .noCycle := by
  cases rd <;> rfl

/-- ACK_N low with RD_N and WR_N high makes no cycle (R143). -/
theorem BusPins.cycle_ackLow_rdHigh_wrHigh (cs : Bool) (a : BitVec 6) (d : Byte) :
    BusPins.cycle ⟨cs, true, true, false, a, d⟩ = .noCycle := rfl

/-! ### The grant that pushes -/

/-- The grant byte is 80h plus the source's number: the number leaves bit 7 free (R143). -/
theorem grantByte_eq_add (w : Fin 24) : grantByte w = BitVec.ofNat 8 (0x80 + w.val) := by
  decide +revert

/-- A change of the top context keeps the depth. -/
@[simp] theorem onTop_length (f : Context → Context) (l : List Context) : (onTop f l).length = l.length := by
  cases l <;> rfl

/-- A grant under the grant condition answers the winner's grant byte and pushes a context for the winner (R107, R108). -/
theorem State.grant_of_grantCondition {s : State} (hg : s.grantCondition = true) :
    ∃ w, s.winner = some w ∧ s.grant = (grantByte w, s.push w) := by
  rcases s.grant_cases with ⟨hfalse, -⟩ | ⟨w, hw, -, -, hgrant⟩
  · simp [hg] at hfalse
  · exact ⟨w, hw, hgrant⟩

/-- GRANT under the grant condition drives the winner's grant byte over the push for the winner (R107, R108). -/
theorem exec_grant_of_grantCondition {s : State} (hr : s.resetLow = false) (hg : s.grantCondition = true) :
    ∃ w, s.winner = some w ∧ exec .grant s = .next { s.undriven.push w with dataOut := some (grantByte w) } := by
  obtain ⟨w, hw, hgrant⟩ := State.grant_of_grantCondition (s := s.undriven) hg
  exact ⟨w, hw, by rw [exec_grant, readUnlessReset_high hr, hgrant]⟩

/-- GRANT without the grant condition drives 00h and changes nothing else (R110). -/
theorem exec_grant_of_not_grantCondition {s : State} (hr : s.resetLow = false) (hg : s.grantCondition = false) :
    exec .grant s = .next { s with dataOut := some 0x00 } := by
  rw [exec_grant, readUnlessReset_grant_of_not_grantCondition hr hg]

/-! ### The statement -/

/-- Settles O8: the pins with ACK_N low are decoded without CS_N and the address, and the acknowledge command is a read of GRANT, so its
two answers are those of GRANT. -/
theorem acknowledgeCycleIsAGrantRead : Obligations.AcknowledgeCycleIsAGrantRead := by
  refine ⟨fun cs a d => ?pins, exec_acknowledgeCycle_eq_grant, fun cs a s hr hg => ?noGrant, fun cs a s hr hg => ?push,
    fun cs rd a d => ?noCycle⟩
  case pins => rw [BusPins.cycle_acknowledge, Cycle.command]
  case noGrant => rw [exec_acknowledgeCycle_eq_grant, exec_grant_of_not_grantCondition hr hg]
  case push =>
    obtain ⟨w, hw, hexec⟩ := exec_grant_of_grantCondition hr hg
    rw [exec_acknowledgeCycle_eq_grant]
    refine ⟨w, _, s.undriven.newContext w, onTop Context.pause s.stack, hw, hexec, ?_, State.newContext_source _ w,
      onTop_length _ _, ?_⟩
    · rw [State.push_stack, State.undriven_stack]
    · rw [grantByte_eq_add]
  case noCycle =>
    rw [BusPins.cycle_ackLow_wrLow, BusPins.cycle_ackLow_rdHigh_wrHigh]
    exact ⟨rfl, rfl⟩

end Sys2Proof.Machine
end

section
/-! What a step is made of. `Move` lists the changes that the commands, the CLK period and the reset compose; every effect is a run of moves, and
so is every step. An invariant that each move keeps is one that every step keeps. -/

namespace Sys2Proof.Machine

/-! ### The moves -/

/-- The fields that the invariants of Safety.lean speak of. -/
def State.guarded (s : State) : Vector Source 24 × Nat × List Context × EventLatch × Vector Line 16 × (Word × Word) × Nat × Word :=
  (s.sources, s.freeCount, s.stack, s.latch, s.lines, (s.agePeriod, s.agingCount), s.clkCount, s.intervalDivider)

/-- The fields that the invariants speak of are as they were. -/
def Quiet (s t : State) : Prop := t.guarded = s.guarded

theorem Quiet.sources {s t : State} (h : Quiet s t) : t.sources = s.sources := congrArg (·.1) h
theorem Quiet.freeCount {s t : State} (h : Quiet s t) : t.freeCount = s.freeCount := congrArg (·.2.1) h
theorem Quiet.stack {s t : State} (h : Quiet s t) : t.stack = s.stack := congrArg (·.2.2.1) h
theorem Quiet.latch {s t : State} (h : Quiet s t) : t.latch = s.latch := congrArg (·.2.2.2.1) h
theorem Quiet.lines {s t : State} (h : Quiet s t) : t.lines = s.lines := congrArg (·.2.2.2.2.1) h
theorem Quiet.agePeriod {s t : State} (h : Quiet s t) : t.agePeriod = s.agePeriod := congrArg (·.2.2.2.2.2.1.1) h
theorem Quiet.agingCount {s t : State} (h : Quiet s t) : t.agingCount = s.agingCount := congrArg (·.2.2.2.2.2.1.2) h
theorem Quiet.clkCount {s t : State} (h : Quiet s t) : t.clkCount = s.clkCount := congrArg (·.2.2.2.2.2.2.1) h
theorem Quiet.intervalDivider {s t : State} (h : Quiet s t) : t.intervalDivider = s.intervalDivider := congrArg (·.2.2.2.2.2.2.2) h

/-- One change of the state, of the kinds that steps are made of. -/
inductive Move (s : State) : State → Prop where
  | quiet {t : State} (h : Quiet s t) : Move s t
  | clock (c : Nat) (d : Word) (h : c < tickPeriod d) : Move s { s with clkCount := c, intervalDivider := d }
  | agePeriod (v : Word) : Move s { s with agePeriod := v, agingCount := v }
  | countAging : Move s s.countAging
  | sampleLines (w : Word) : Move s (s.sampleLines w)
  | setLineCfg (n : Fin 16) (b : Byte) : Move s (s.setLineCfg n b)
  | configure (i : Fin 24) (q : Source) (hqueue : q.queue = (s.src i).queue) (hcredits : q.credits = (s.src i).credits)
      (hrange : (s.src i).InRange i → q.InRange i) : Move s (s.setSrc i q)
  | arrive (r : Record) (h : kindFits r.source r.kind = true) : Move s (s.admitArrival r).2
  | credits : Move s s.grantCredits
  | push (w : Fin 24) (hw : s.winner = some w) (hg : s.canGrant w = true) : Move s (s.push w)
  | drop : Move s { s with stack := onTop Context.resume s.stack.tail }
  | take : Move s s.takeEffect
  | flush (i : Fin 24) : Move s (s.flushSource i)
  | clear : Move s s.clearWork
  | countBudget : Move s s.countBudget
  | reset : Move s s.hardwareReset

/-- A run of moves. -/
abbrev Moves : State → State → Prop := Relation.ReflTransGen Move

/-- One move is a run. -/
theorem Move.run {s t : State} (h : Move s t) : Moves s t := Relation.ReflTransGen.single h

/-- A change of no field that an invariant speaks of is a run. -/
theorem Quiet.run {s t : State} (h : Quiet s t) : Moves s t := (Move.quiet h).run

/-- What every move keeps, every run of moves keeps. -/
theorem Moves.keeps {P : State → Prop} (hP : ∀ s t, Move s t → P s → P t) {s t : State} (h : Moves s t) (hs : P s) : P t := by
  induction h with
  | refl => exact hs
  | tail _ hmove ih => exact hP _ _ hmove ih

/-! ### Records that fit their source -/

/-- A line source is no posted source (R23). -/
@[simp] theorem isPosted_lineSource (n : Fin 16) : isPosted (lineSource n) = false := by
  have hn : ¬ 16 ≤ (lineSource n).val := by simp only [lineSource]; omega
  simp only [isPosted, hn, decide_false, Bool.false_and]

/-- A re-assertion's record is of a kind that fits its line source (R55). -/
theorem State.reassertRecord_fits (s : State) (n : Fin 16) :
    kindFits (s.reassertRecord n).source (s.reassertRecord n).kind = true := by
  simp [State.reassertRecord, kindFits]

/-- An expiry's record is of the kind of interval sources (R75). -/
theorem State.expiryRecord_fits (s : State) (n : Fin 4) :
    kindFits (s.expiryRecord n).source (s.expiryRecord n).kind = true := by
  simp [State.expiryRecord, kindFits]

/-- POST_SRC selects a posted source or none (R79). -/
theorem isPosted_of_postedSource {b : Byte} {i : Fin 24} (h : postedSource b = some i) : isPosted i = true :=
  (Option.filter_eq_some_iff.mp h).2

/-- A POST's record is of the kind of posted sources (R80). -/
theorem State.postRecord_fits (s : State) {i : Fin 24} (b : Byte) (h : isPosted i = true) :
    kindFits (s.postRecord i b).source (s.postRecord i b).kind = true := by
  have hi : isInterval i = false := by simp [isPosted, isInterval] at *; omega
  simp [State.postRecord, kindFits, hi, h]

/-- The kinds that a line mode makes are those of line sources (R51). -/
theorem LineMode.arrivalKind_fits {m : LineMode} {b : Bool} {k : Kind} (h : m.arrivalKind b = some k) (n : Fin 16) :
    kindFits (lineSource n) k = true := by
  have hk : k = .rise ∨ k = .fall ∨ k = .level := by
    cases m <;> cases b <;> simp [LineMode.arrivalKind] at h <;> simp [← h]
  rcases hk with rfl | rfl | rfl <;> simp [kindFits]

/-- A line's arrival at a tick fits its source (R52). -/
theorem State.lineArrival_fits {s : State} {w : Word} {n : Fin 16} {r : Record} (h : s.lineArrival w n = some r) :
    r.source = lineSource n ∧ kindFits r.source r.kind = true := by
  unfold State.lineArrival at h
  split at h
  · obtain ⟨k, hk, rfl⟩ := Option.map_eq_some_iff.mp h
    exact ⟨rfl, LineMode.arrivalKind_fits hk n⟩
  · simp at h

/-- Every arrival of a tick fits its source (R51, R75). -/
theorem State.tickArrivals_fit {s : State} {w : Word} {r : Record} (h : r ∈ s.tickArrivals w) : kindFits r.source r.kind = true := by
  rcases List.mem_append.mp h with hline | htimer
  · obtain ⟨n, -, hn⟩ := List.mem_filterMap.mp hline
    exact (State.lineArrival_fits hn).2
  · obtain ⟨n, -, hn⟩ := List.mem_filterMap.mp htimer
    split at hn
    · rw [← Option.some.inj hn]
      exact s.expiryRecord_fits n
    · simp at hn

/-! ### The effects as runs -/

/-- Ceasing to drive D7 to D0 is quiet. -/
theorem State.undriven_quiet (s : State) : Quiet s s.undriven := rfl

/-- An answer in CMD_STATUS is quiet. -/
theorem State.answer_quiet (s : State) (a : Answer) : Quiet s (s.answer a) := rfl

/-- A re-assertion is the move of its record's arrival, or no move. -/
theorem State.reassert_moves (s : State) (n : Fin 16) : Moves s (s.reassert n) := by
  rcases s.reassert_cases n with ⟨-, h⟩ | ⟨-, h⟩ <;> rw [h]
  exact (Move.arrive _ (s.reassertRecord_fits n)).run

/-- A run of re-assertions is a run of moves. -/
theorem State.foldl_reassert_moves (l : List (Fin 16)) (s : State) : Moves s (l.foldl State.reassert s) := by
  induction l generalizing s with
  | nil => exact .refl
  | cons n l ih => exact (s.reassert_moves n).trans (ih _)

/-! ### The pop -/

/-- Admission does not look at the stack. -/
theorem State.admitArrival_withStack (s : State) (l : List Context) (r : Record) :
    ({ s with stack := l }.admitArrival r).2 = { (s.admitArrival r).2 with stack := l } := by
  have hsrc : ∀ i, { s with stack := l }.src i = s.src i := fun _ => rfl
  unfold State.admitArrival State.coalesce State.enqueue State.allocate
  simp only [hsrc]
  split
  · rfl
  split
  · split
    · split <;> rfl
    · split
      · rfl
      · split <;> rfl
  · split
    · split <;> rfl
    split
    · split <;> rfl
    · split <;> rfl

/-- A change of the top context that keeps its source keeps the sources of the stack. -/
theorem map_source_onTop {f : Context → Context} (hf : ∀ c, (f c).source = c.source) (l : List Context) :
    (onTop f l).map Context.source = l.map Context.source := by
  cases l <;> simp [onTop, hf]

/-- Resuming keeps everything of a context but its budget state (R121). -/
@[simp] theorem Context.resume_source (c : Context) : c.resume.source = c.source := by
  unfold Context.resume; split <;> rfl

/-- Pausing keeps the source (R109). -/
@[simp] theorem Context.pause_source (c : Context) : c.pause.source = c.source := by
  unfold Context.pause; split <;> rfl

/-- A source is on the stack when it is among the sources of its contexts. -/
theorem State.onStack_iff {s : State} {i : Fin 24} : s.onStack i = true ↔ i ∈ s.stack.map Context.source := by
  simp [State.onStack]

/-- Being on the stack depends on the contexts' sources alone. -/
theorem State.onStack_congr {s t : State} (h : t.stack.map Context.source = s.stack.map Context.source) (i : Fin 24) :
    t.onStack i = s.onStack i := by
  rw [Bool.eq_iff_iff, State.onStack_iff, State.onStack_iff, h]

/-- Of the stack a re-assertion looks at its own source's place alone. -/
theorem State.reassert_withStack {s : State} {l : List Context} {n : Fin 16}
    (h : { s with stack := l }.onStack (lineSource n) = s.onStack (lineSource n)) :
    { s with stack := l }.reassert n = { s.reassert n with stack := l } := by
  have htest : { s with stack := l }.reassertable n = s.reassertable n := by
    unfold State.reassertable; rw [h]; rfl
  unfold State.reassert
  rw [htest]
  split
  · exact State.admitArrival_withStack s l _
  · rfl

/-- The re-assertion that a pop of source `i` tests: of its line when it is a line source (R120). -/
def State.reassertSource (s : State) (i : Fin 24) : State :=
  match lineOf i with
  | some n => s.reassert n
  | none => s

/-- A pop drops the top and resumes the next, then tests the popped source for re-assertion (R120, R121). -/
theorem State.pop_eq {s : State} {c : Context} {rest : List Context} (h : s.stack = c :: rest) :
    s.pop = { s with stack := onTop Context.resume rest }.reassertSource c.source := by
  unfold State.pop State.reassertSource
  rw [h]
  cases hl : lineOf c.source with
  | none => simp only [hl]
  | some n =>
    have hplace : { s with stack := onTop Context.resume rest }.onStack (lineSource n) = { s with stack := rest }.onStack (lineSource n) :=
      State.onStack_congr (map_source_onTop Context.resume_source rest) _
    have hstack : (State.reassert { s with stack := rest } n).stack = rest := by
      rw [(State.reassert_frame { s with stack := rest } n).rest]
    have hcomm := State.reassert_withStack (s := { s with stack := rest }) hplace
    simp only [hl, hstack]
    exact hcomm.symm

end Sys2Proof.Machine
end

section
/-! Every effect, every command and every step as a run of moves. -/

namespace Sys2Proof.Machine

/-! ### The tick -/

/-- A tick period is at least one CLK period (R65). -/
theorem tickPeriod_pos (d : Word) : 0 < tickPeriod d := by
  unfold tickPeriod
  split
  · decide
  · next h => exact Nat.pos_of_ne_zero fun h0 => h (BitVec.eq_of_toNat_eq h0)

/-- The Timebase's part of a tick begins an interval and is quiet else (R65, R67). -/
theorem State.advanceTime_moves (s : State) : Moves s s.advanceTime := by
  have hclock : Moves s { s with clkCount := 0, intervalDivider := s.divider } :=
    (Move.clock 0 s.divider (tickPeriod_pos _)).run
  exact hclock.trans (Quiet.run rfl)

/-- The timers' counting is quiet. -/
theorem State.countTimers_quiet (s : State) : Quiet s s.countTimers :=
  by simp [Quiet, State.guarded]

/-- The units' counting is one move for each unit (R70). -/
theorem State.countTick_moves (s : State) (w : Word) : Moves s (s.countTick w) :=
  (((Move.sampleLines w).run.trans (State.countTimers_quiet _).run).trans Move.countAging.run).trans Move.countBudget.run

/-- A work of a tick is one move. -/
theorem State.doWork_move (s : State) {k : TickWork} (h : ∀ r, k = .arrive r → kindFits r.source r.kind = true) :
    Move s (s.doWork k) := by
  cases k with
  | arrive r => exact .arrive r (h r rfl)
  | age => exact .credits

/-- The works of a tick, in any order, are a run of moves. -/
theorem State.foldl_doWork_moves (l : List TickWork) (h : ∀ r, .arrive r ∈ l → kindFits r.source r.kind = true) (s : State) :
    Moves s (l.foldl State.doWork s) := by
  induction l generalizing s with
  | nil => exact .refl
  | cons k l ih =>
    have hk : Move s (s.doWork k) := s.doWork_move fun r hr => h r (hr ▸ List.mem_cons_self)
    exact hk.run.trans (ih (fun r hr => h r (List.mem_cons_of_mem _ hr)) _)

/-- An arrival is a work of the tick exactly when the tick makes it. -/
theorem arrive_mem_tickWorks {arrivals : List Record} {age : Bool} {r : Record} :
    .arrive r ∈ tickWorks arrivals age ↔ r ∈ arrivals := by
  cases age <;> simp [tickWorks]

/-- A tick is a run of moves. -/
theorem State.tickEffect_moves (s : State) (w : Word) : Moves s (s.tickEffect w) := by
  obtain ⟨l, d, hperm, heq⟩ := s.tickEffect_works w
  have hdraw : Moves s { s.advanceTime.countTick w with draws := d } :=
    (s.advanceTime_moves.trans (State.countTick_moves _ w)).trans
      (Quiet.run rfl)
  rw [heq]
  refine hdraw.trans (State.foldl_doWork_moves l (fun r hr => ?_) _)
  exact State.tickArrivals_fit (arrive_mem_tickWorks.mp (hperm.mem_iff.mp hr))

/-- One CLK period is a run of moves. -/
theorem State.clkPeriod_moves (s : State) : Moves s s.clkPeriod := by
  unfold State.clkPeriod
  split
  · split
    · next h => exact s.undriven_quiet.run.trans (Move.clock (s.clkCount + 1) s.intervalDivider h).run
    · have hdraw : Quiet s { s.undriven with draws := s.draws + 1 } := rfl
      exact hdraw.run.trans (State.tickEffect_moves _ _)
  · exact s.undriven_quiet.run

/-! ### The expiries -/

/-- An expiry of a timer is its record's arrival, and quiet else (R75). -/
theorem State.expireTimer_moves (s : State) (n : Fin 4) : Moves s (s.expireTimer n) := by
  have harrive : Moves s (s.admitArrival (s.expiryRecord n)).2 := (Move.arrive _ (s.expiryRecord_fits n)).run
  exact harrive.trans (Quiet.run rfl)

/-- A budget that is due expires as the Budget Unit's counting does it (R130). -/
theorem State.expireBudget_of_due {s : State} (h : s.budgetDue = true) : s.expireBudget = s.countBudget := by
  unfold State.countBudget
  cases hs : s.stack with
  | nil => simp [State.budgetDue, hs] at h
  | cons c rest =>
    simp only [State.budgetDue, hs, Bool.and_eq_true, beq_iff_eq] at h
    simp only [h.1, h.2, if_true]

/-! ### The service -/

/-- A grant is a push or nothing (R107). -/
theorem State.grant_moves (s : State) : Moves s s.grant.2 := by
  rcases s.grant_cases with ⟨-, h⟩ | ⟨w, hw, hc, -, h⟩ <;> rw [h]
  exact (Move.push w hw hc).run

/-- A pop is a drop of the top and a re-assertion (R120, R121). -/
theorem State.pop_moves (s : State) : Moves s s.pop := by
  cases h : s.stack with
  | nil => rw [s.pop_nil h]
  | cons c rest =>
    have hdrop : Move s { s with stack := onTop Context.resume s.stack.tail } := .drop
    rw [h] at hdrop
    rw [State.pop_eq h]
    unfold State.reassertSource
    split
    · exact hdrop.run.trans (State.reassert_moves _ _)
    · exact hdrop.run

/-- Any number of pops is a run of moves. -/
theorem State.popMany_moves (n : Nat) (s : State) : Moves s (s.popMany n) := by
  induction n generalizing s with
  | zero => exact .refl
  | succ n ih => exact s.pop_moves.trans (ih s.pop)

/-- END_SERVICE is an answer, after a pop or without one (R119). -/
theorem State.endService_moves (b : Byte) (s : State) : Moves s (s.endService b) := by
  unfold State.endService
  split
  · exact (s.answer_quiet _).run
  · split
    · exact (s.answer_quiet _).run
    · split
      · exact s.pop_moves.trans (State.answer_quiet _ _).run
      · split <;> exact (s.answer_quiet _).run

/-- UNWIND is an answer, after pops or without any (R122). -/
theorem State.unwind_moves (s : State) : Moves s s.unwind := by
  unfold State.unwind
  split
  · exact (s.answer_quiet _).run
  · exact (State.popMany_moves _ s).trans (State.answer_quiet _ _).run

/-! ### The strobes -/

/-- FLUSH is one flush and an answer (R20). -/
theorem State.flush_moves (b : Byte) (s : State) : Moves s (s.flush b) := by
  unfold State.flush
  split
  · exact (s.answer_quiet _).run
  · exact (Move.flush _).run.trans (State.answer_quiet _ _).run

/-- CLEAR is its parts 1 to 3, re-assertions and an answer (R149). -/
theorem State.clear_moves (s : State) : Moves s s.clear :=
  (Move.clear.run.trans (State.foldl_reassert_moves _ _)).trans (State.answer_quiet _ _).run

/-- POST is one arrival and an answer (R80). -/
theorem State.post_moves (b : Byte) (s : State) : Moves s (s.post b) := by
  unfold State.post
  split
  · exact (s.answer_quiet _).run
  · next i h =>
    have harrive : Move s (s.admitArrival (s.postRecord i b)).2 := .arrive _ (s.postRecord_fits b (isPosted_of_postedSource h))
    exact harrive.run.trans (State.answer_quiet _ _).run

/-- TIMER_ARM is quiet (R73). -/
theorem State.armTimer_quiet (b : Byte) (s : State) : Quiet s (s.armTimer b) := by
  unfold State.armTimer; split <;> exact rfl

/-- TIMER_STOP is quiet (R74). -/
theorem State.stopTimer_quiet (b : Byte) (s : State) : Quiet s (s.stopTimer b) := by
  unfold State.stopTimer; split <;> exact rfl

/-! ### The source page -/

/-- A SRC_CFG write keeps a record in range: queue, quota and counts stay, and the policy is COALESCE only where it was (R37, R153). -/
theorem Source.writeCfg_inRange {i : Fin 24} {q : Source} (b : Byte) (h : q.InRange i) : (q.writeCfg i b).InRange i := by
  obtain ⟨hdepth, hone, hquota, hquota', hmissed, hcredits, hpolicy, hqueue⟩ := h
  refine ⟨hdepth, hone, hquota, hquota', hmissed, hcredits, ?_, hqueue⟩
  cases hi : isInterval i with
  | true => simpa [Source.writeCfg, hi] using hpolicy
  | false =>
    have hp : policyOfByte b ≠ .coalesce := by unfold policyOfByte; split <;> simp
    simp [Source.writeCfg, hi, hp]

/-- A stored quota is within 1 to 16 (R30). -/
theorem clampQuota_range (b : Byte) : 1 ≤ clampQuota b ∧ clampQuota b ≤ 16 := by
  unfold clampQuota; split <;> omega

/-- A change of the selected record is one move or none. -/
theorem State.onSelected_moves (s : State) {f : Fin 24 → Source → Source} (hqueue : ∀ i q, (f i q).queue = q.queue)
    (hcredits : ∀ i q, (f i q).credits = q.credits) (hrange : ∀ i q, q.InRange i → (f i q).InRange i) :
    Moves s (s.onSelected f) := by
  unfold State.onSelected
  split
  · exact .refl
  · exact (Move.configure _ _ (hqueue _ _) (hcredits _ _) (hrange _ _)).run

/-- SRC_CFG is one move or none (R37). -/
theorem State.writeSrcCfg_moves (b : Byte) (s : State) : Moves s (s.writeSrcCfg b) :=
  s.onSelected_moves (fun _ _ => rfl) (fun _ _ => rfl) fun _ _ => Source.writeCfg_inRange b

/-- SRC_CLASS is one move or none (R29). -/
theorem State.writeSrcClass_moves (b : Byte) (s : State) : Moves s (s.writeSrcClass b) :=
  s.onSelected_moves (fun _ _ => rfl) (fun _ _ => rfl) fun _ _ h => h

/-- SRC_QUOTA is one move or none (R30). -/
theorem State.writeSrcQuota_moves (b : Byte) (s : State) : Moves s (s.writeSrcQuota b) :=
  s.onSelected_moves (fun _ _ => rfl) (fun _ _ => rfl) fun _ _ ⟨hdepth, hone, _, _, hrest⟩ =>
    ⟨hdepth, hone, (clampQuota_range b).1, (clampQuota_range b).2, hrest⟩

/-- SRC_LINE sets a line and may re-assert it (R53). -/
theorem State.writeSrcLine_moves (b : Byte) (s : State) : Moves s (s.writeSrcLine b) := by
  unfold State.writeSrcLine
  split
  · exact .refl
  · next n _ =>
    have hset : Moves s (s.setLineCfg n b) := (Move.setLineCfg n b).run
    unfold State.writeLine
    split
    · exact hset.trans (State.reassert_moves _ _)
    · exact hset

/-! ### The other registers -/

/-- AGE_PERIOD H is one move (R87). -/
theorem State.writeAgePeriod_moves (b : Byte) (s : State) : Moves s (s.writeAgePeriod b) := (Move.agePeriod _).run

/-- TB_CTRL stops or starts the CLK count at 0, or changes nothing (R66). -/
theorem State.writeTbCtrl_moves (b : Byte) (s : State) : Moves s (s.writeTbCtrl b) := by
  have hclock : ∀ d, Moves s { s with clkCount := 0, intervalDivider := d } := fun d => (Move.clock 0 d (tickPeriod_pos d)).run
  unfold State.writeTbCtrl
  split
  · exact .refl
  · split
    · exact (hclock s.divider).trans (Quiet.run rfl)
    · exact (hclock s.intervalDivider).trans (Quiet.run rfl)

/-- A change of the selected timer is quiet. -/
theorem State.onTimer_quiet (s : State) (f : Timer → Timer) : Quiet s (s.onTimer f) := by
  unfold State.onTimer; split <;> exact rfl

/-- A change of the selected class is quiet. -/
theorem State.onClass_quiet (s : State) (f : ClassBudget → ClassBudget) : Quiet s (s.onClass f) := by
  unfold State.onClass; split <;> exact rfl

/-- A low-byte write is quiet (R145). -/
theorem State.writeHolding_quiet (v : WideValue) (b : Byte) (s : State) : Quiet s (s.writeHolding v b) := by
  unfold State.writeHolding; split <;> exact rfl

/-- Every write of a register is a run of moves (R142). -/
theorem State.windowWrite_moves (r : Reg) (b : Byte) (s : State) : Moves s (s.windowWrite r b) := by
  cases r
  case endService => exact s.endService_moves b
  case unwind => exact s.unwind_moves
  case flush => exact s.flush_moves b
  case clear => exact s.clear_moves
  case post => exact s.post_moves b
  case agePeriodL => exact (s.writeHolding_quiet _ b).run
  case agePeriodH => exact s.writeAgePeriod_moves b
  case tbDivL => exact (s.writeHolding_quiet _ b).run
  case tbCtrl => exact s.writeTbCtrl_moves b
  case stampL => exact (s.writeHolding_quiet _ b).run
  case timerPeriodL => exact (s.writeHolding_quiet _ b).run
  case timerPeriodH => exact (s.onTimer_quiet fun t => { t with period := s.joined .timerPeriod b }).run
  case timerCtrl => exact (s.onTimer_quiet fun t => { t with mode := timerModeOfByte b }).run
  case timerArm => exact (s.armTimer_quiet b).run
  case timerStop => exact (s.stopTimer_quiet b).run
  case budgetL => exact (s.writeHolding_quiet _ b).run
  case budgetH => exact (s.onClass_quiet fun x => { x with budget := s.joined .budget b }).run
  case budgetAction => exact (s.onClass_quiet fun x => { x with action := actionOfByte b }).run
  case srcCfg => exact s.writeSrcCfg_moves b
  case srcClass => exact s.writeSrcClass_moves b
  case srcQuota => exact s.writeSrcQuota_moves b
  case srcLine => exact s.writeSrcLine_moves b
  all_goals exact Quiet.run rfl

/-! ### The commands -/

/-- A command that drives nothing is a run of moves when its effect is. -/
theorem unlessReset_moves (s : State) {f : State → State} (h : Moves s.undriven (f s.undriven)) : Moves s (unlessReset s f) := by
  rcases unlessReset_cases s f with ⟨-, hf⟩ | ⟨-, hf⟩ <;> rw [hf]
  · exact s.undriven_quiet.run
  · exact s.undriven_quiet.run.trans h

/-- A reading cycle is a run of moves when its effect is. -/
theorem readUnlessReset_moves (s : State) {f : State → Byte × State} (h : Moves s.undriven (f s.undriven).2) :
    Moves s (readUnlessReset s f) := by
  rcases readUnlessReset_cases s f with ⟨-, hf⟩ | ⟨-, hf⟩ <;> rw [hf]
  · exact s.undriven_quiet.run
  · exact (s.undriven_quiet.run.trans h).trans (Quiet.run rfl)

/-- RESET_N_RELEASE is the reset, or ceases to drive D7 to D0 (R150). -/
theorem exec_resetNRelease_moves (s : State) : ∃ t, exec .resetNRelease s = .next t ∧ Moves s t := by
  refine ⟨_, rfl, ?_⟩
  split
  · exact Move.reset.run
  · exact s.undriven_quiet.run

/-- A tick or an expiry that is due is a run of moves when its effect is; one that is not due ceases to drive D7 to D0. -/
theorem ifDue_moves (s : State) (p : Bool) {f : State → State} (h : p = true → Moves s.undriven (f s.undriven)) :
    Moves s (if p then f s.undriven else s.undriven) := by
  cases p with
  | true => exact s.undriven_quiet.run.trans (h rfl)
  | false => exact s.undriven_quiet.run

/-- BUDGET_EXPIRY is the Budget Unit's counting or nothing (R132). -/
theorem execBudgetExpiry_moves (s : State) :
    Moves s (if s.ticking && s.budgetDue then s.undriven.expireBudget else s.undriven) := by
  refine ifDue_moves s _ (f := State.expireBudget) fun hdue => ?_
  have hb : s.undriven.budgetDue = true := (Bool.and_eq_true_iff.mp hdue).2
  rw [State.expireBudget_of_due hb]
  exact Move.countBudget.run

/-- Every write has the effect of its register's write, by whatever row it is named (R142; log 11). -/
theorem exec_writeCommand (r : Reg) (b : Byte) (s : State) :
    exec (r.writeCommand b) s = .next (unlessReset s (State.windowWrite r b)) := by
  cases r <;> rfl

/-- REGISTER_WRITE is the write of its register (R142). -/
theorem exec_registerWrite (r : Reg) (b : Byte) (s : State) :
    exec (.registerWrite r b) s = .next (unlessReset s (State.windowWrite r b)) := rfl

/-- A command is an event on the pins or of the Timebase, a read, or the write of some register (R142). -/
theorem Instr.byCycle {P : Instr → Prop} (resetNLow : P .resetNLow) (resetNRelease : P .resetNRelease) (tick : ∀ w, P (.tick w))
    (timerExpiry : ∀ n, P (.timerExpiry n)) (agingExpiry : P .agingExpiry) (budgetExpiry : P .budgetExpiry) (grant : P .grant)
    (acknowledgeCycle : ∀ cs a, P (.acknowledgeCycle cs a)) (take : P .take) (lowByteRead : ∀ v, P (.lowByteRead v))
    (write : ∀ r b, P (Reg.writeCommand r b)) (registerWrite : ∀ r b, P (.registerWrite r b)) (c : Instr) : P c := by
  cases c with
  | resetNLow => exact resetNLow
  | resetNRelease => exact resetNRelease
  | tick w => exact tick w
  | timerExpiry n => exact timerExpiry n
  | agingExpiry => exact agingExpiry
  | budgetExpiry => exact budgetExpiry
  | grant => exact grant
  | acknowledgeCycle cs a => exact acknowledgeCycle cs a
  | take => exact take
  | lowByteRead v => exact lowByteRead v
  | registerWrite r b => exact registerWrite r b
  | endService b => exact write .endService b
  | unwind b => exact write .unwind b
  | flush b => exact write .flush b
  | clear b => exact write .clear b
  | post b => exact write .post b
  | timerArm b => exact write .timerArm b
  | timerStop b => exact write .timerStop b
  | srcCfg b => exact write .srcCfg b
  | srcClass b => exact write .srcClass b
  | srcQuota b => exact write .srcQuota b
  | srcLine b => exact write .srcLine b
  | floor b => exact write .floor b
  | agePeriodH b => exact write .agePeriodH b
  | tbDivH b => exact write .tbDivH b
  | tbCtrl b => exact write .tbCtrl b
  | stampH b => exact write .stampH b
  | timerPeriodH b => exact write .timerPeriodH b
  | timerCtrl b => exact write .timerCtrl b
  | budgetH b => exact write .budgetH b
  | budgetAction b => exact write .budgetAction b
  | lowMark b => exact write .lowMark b
  | alertFlags b => exact write .alertFlags b
  | alertEnable b => exact write .alertEnable b
  | holdingByteWrite v b =>
    cases v with
    | agePeriod => exact write .agePeriodL b
    | tbDiv => exact write .tbDivL b
    | stamp => exact write .stampL b
    | timerPeriod => exact write .timerPeriodL b
    | budget => exact write .budgetL b

/-- Every command answers a next state, by a run of moves. -/
theorem exec_moves (c : Instr) (s : State) : ∃ t, exec c s = .next t ∧ Moves s t := by
  induction c using Instr.byCycle with
  | resetNLow => exact ⟨_, rfl, Move.reset.run.trans (Quiet.run rfl)⟩
  | resetNRelease => exact exec_resetNRelease_moves s
  | tick w => exact ⟨_, rfl, ifDue_moves s _ (f := (·.tickEffect w)) fun _ => State.tickEffect_moves _ w⟩
  | timerExpiry n => exact ⟨_, rfl, ifDue_moves s _ (f := (·.expireTimer n)) fun _ => State.expireTimer_moves _ n⟩
  | agingExpiry =>
    exact ⟨_, rfl, ifDue_moves s _ (f := (·.countAging.grantCredits)) fun _ => Move.countAging.run.trans Move.credits.run⟩
  | budgetExpiry => exact ⟨_, rfl, execBudgetExpiry_moves s⟩
  | grant => exact ⟨_, rfl, readUnlessReset_moves s (State.grant_moves _)⟩
  | acknowledgeCycle cs a => exact ⟨_, rfl, readUnlessReset_moves s (State.grant_moves _)⟩
  | take => exact ⟨_, rfl, readUnlessReset_moves s (f := State.takeEvent) Move.take.run⟩
  | lowByteRead v =>
    have hlatch : Quiet s.undriven (s.undriven.readLow v).2 := rfl
    exact ⟨_, rfl, readUnlessReset_moves s hlatch.run⟩
  | write r b => exact ⟨_, exec_writeCommand r b s, unlessReset_moves s (State.windowWrite_moves r b _)⟩
  | registerWrite r b => exact ⟨_, exec_registerWrite r b s, unlessReset_moves s (State.windowWrite_moves r b _)⟩

/-- Every step answers a next state, by a run of moves. -/
theorem step_moves (s : State) : ∃ t, step s = .next t ∧ Moves s t := by
  unfold step
  split
  · exact ⟨_, rfl, s.clkPeriod_moves⟩
  · next c rest _ =>
    obtain ⟨t, ht, hmoves⟩ := exec_moves c { s with pending := rest }
    have hq : Quiet s { s with pending := rest } := rfl
    exact ⟨t, ht, hq.run.trans hmoves⟩

/-- What every move keeps, every step keeps. -/
theorem step_keeps {P : State → Prop} (hP : ∀ s t, Move s t → P s → P t) {s t : State} (h : step s = .next t) (hs : P s) : P t := by
  obtain ⟨u, hu, hmoves⟩ := step_moves s
  obtain rfl : u = t := by rw [h] at hu; exact (Host.Outcome.next.inj hu).symm
  exact hmoves.keeps hP hs

end Sys2Proof.Machine
end

section
/-! The source records and the pool under every move: the outcomes of an admission, the ranges of a record, the balance of the pool and the
cleared credits, and the statements about R4, R23 and R90. -/

namespace Sys2Proof.Machine

/-! ### The outcomes of an admission -/

/-- What an admission does, by the queue, the pool and the policy (R10 to R15). -/
inductive Admission (s : State) (r : Record) : State → Prop where
  | off (h : (s.src r.source).admitOn = false) : Admission s r s
  | lost : Admission s r (s.lose r.source)
  | displaced (hi : isInterval r.source = false) (h : (s.src r.source).quota ≤ (s.src r.source).queue.length) : Admission s r (s.displace r)
  | merged (h : Record) (rest : List Record) (hq : (s.src r.source).queue = h :: rest) :
      Admission s r (s.setSrc r.source { s.src r.source with queue := { h with datum := h.datum + 1 } :: rest })
  | lostAtEmptyPool (h : s.freeCount = 0) : Admission s r (s.setPoolEmpty.lose r.source)
  | displacedAtEmptyPool (hi : isInterval r.source = false) (h : s.freeCount = 0) (hq : (s.src r.source).queue ≠ []) :
      Admission s r (s.setPoolEmpty.displace r)
  | appended (h : s.freeCount ≠ 0) (hi : isInterval r.source = true → (s.src r.source).queue = [])
      (hroom : isInterval r.source = false → (s.src r.source).queue.length < (s.src r.source).quota) : Admission s r (s.allocate.append r)

/-- Every admission has one of these outcomes. -/
theorem State.admission (s : State) (r : Record) : Admission s r (s.admitArrival r).2 := by
  unfold State.admitArrival
  split
  · next h => exact .off (by simpa using h)
  split
  · next hi =>
    unfold State.coalesce
    split
    · next h rest hq =>
      split
      · exact .lost
      · exact .merged h rest hq
    · next hq =>
      split
      · next h => exact .lostAtEmptyPool h
      · next h => exact .appended h (fun _ => hq) (fun hn => by simp [hi] at hn)
  · next hi =>
    have hi : isInterval r.source = false := by simpa using hi
    unfold State.enqueue
    split
    · next hfull =>
      split
      · exact .displaced hi hfull
      · exact .lost
    · next hroom =>
      split
      · next h =>
        split
        · next hp => exact .displacedAtEmptyPool hi h hp.2
        · exact .lostAtEmptyPool h
      · next h => exact .appended h (fun hn => by simp [hi] at hn) (fun _ => Nat.lt_of_not_le hroom)

/-! ### The range of one record -/

/-- One more loss keeps a record in range (R16). -/
theorem Source.InRange.lost {i : Fin 24} {q : Source} (h : q.InRange i) : { q with missed := min 255 (q.missed + 1) }.InRange i := by
  obtain ⟨hdepth, hone, hquota, hquota', -, hrest⟩ := h
  exact ⟨hdepth, hone, hquota, hquota', Nat.min_le_left _ _, hrest⟩

/-- A queue within the depths of source `i`, of records that fit `i`. -/
def QueueFits (i : Fin 24) (l : List Record) : Prop :=
  l.length ≤ 16 ∧ (isInterval i = true → l.length ≤ 1) ∧ ∀ r ∈ l, r.source = i ∧ kindFits i r.kind = true

/-- The queue of a record in range fits. -/
theorem Source.InRange.queue_fits {i : Fin 24} {q : Source} (h : q.InRange i) : QueueFits i q.queue := by
  obtain ⟨hdepth, hone, -, -, -, -, -, hqueue⟩ := h
  exact ⟨hdepth, hone, hqueue⟩

/-- A record in range stays so under another queue that fits. -/
theorem Source.InRange.withQueue {i : Fin 24} {q : Source} (h : q.InRange i) {l : List Record} (hl : QueueFits i l) :
    { q with queue := l }.InRange i := by
  obtain ⟨-, -, hquota, hquota', hmissed, hcredits, hpolicy, -⟩ := h
  exact ⟨hl.1, hl.2.1, hquota, hquota', hmissed, hcredits, hpolicy, hl.2.2⟩

/-- The empty queue fits. -/
theorem queueFits_nil (i : Fin 24) : QueueFits i [] := by simp [QueueFits]

/-- What is left of a queue that fits, fits. -/
theorem QueueFits.tail {i : Fin 24} {h : Record} {l : List Record} (hl : QueueFits i (h :: l)) : QueueFits i l := by
  obtain ⟨hdepth, hone, hqueue⟩ := hl
  simp only [List.length_cons] at hdepth hone
  exact ⟨by omega, fun hi => by have := hone hi; omega, fun r hr => hqueue r (List.mem_cons_of_mem _ hr)⟩

/-- A record that fits, appended to a queue of the source with room, leaves a queue that fits. -/
theorem QueueFits.append {i : Fin 24} {l : List Record} {r : Record} (hl : QueueFits i l) (hs : r.source = i)
    (hk : kindFits i r.kind = true) (hroom : l.length < 16) (hone : isInterval i = true → l = []) : QueueFits i (l ++ [r]) := by
  refine ⟨by simp; omega, fun hi => by simp [hone hi], ?_⟩
  intro x hx
  rcases List.mem_append.mp hx with hx | hx
  · exact hl.2.2 x hx
  · obtain rfl := List.mem_singleton.mp hx
    exact ⟨hs, hk⟩

/-- A displaced queue of a line or posted source fits (R13). -/
theorem QueueFits.displaced {i : Fin 24} {l : List Record} {r : Record} (hl : QueueFits i l) (hs : r.source = i)
    (hk : kindFits i r.kind = true) (hi : isInterval i = false) (hne : l ≠ []) : QueueFits i (l.tail ++ [r]) := by
  cases l with
  | nil => exact absurd rfl hne
  | cons h t =>
    have hlen : t.length < 16 := hl.1
    exact hl.tail.append hs hk hlen (by simp [hi])

/-! ### The ranges under every move -/

/-- Ranges depend on the source table alone. -/
theorem State.SourcesInRange.congr {s t : State} (hs : s.SourcesInRange) (h : t.sources = s.sources) : t.SourcesInRange := by
  intro i
  have hi : t.src i = s.src i := by unfold State.src; rw [h]
  rw [hi]
  exact hs i

/-- Writing one record within its range keeps the table in range. -/
theorem State.SourcesInRange.setSrc {s : State} (hs : s.SourcesInRange) {i : Fin 24} {q : Source} (hq : q.InRange i) :
    (s.setSrc i q).SourcesInRange := by
  intro j
  rw [State.src_setSrc]
  split
  · next h => subst h; exact hq
  · exact hs j

/-- A full queue of a record in range is not empty: its quota is at least 1 (R30). -/
theorem Source.InRange.queue_ne_nil {i : Fin 24} {q : Source} (h : q.InRange i) (hfull : q.quota ≤ q.queue.length) : q.queue ≠ [] := by
  obtain ⟨-, -, hquota, -⟩ := h
  intro hnil
  simp [hnil] at hfull
  omega

/-- A displacement keeps the table in range (R13). -/
theorem State.SourcesInRange.displace {s : State} (hs : s.SourcesInRange) {r : Record} (hk : kindFits r.source r.kind = true)
    (hi : isInterval r.source = false) (hne : (s.src r.source).queue ≠ []) : (s.displace r).SourcesInRange := by
  have hq := ((hs r.source).withQueue ((hs r.source).queue_fits.displaced rfl hk hi hne)).lost
  exact (hs.setSrc hq).congr (by simp [State.displace, State.lose_eq])

/-- Every admission of a record that fits keeps the table in range (R10 to R15). -/
theorem Admission.keeps_sourcesInRange {s t : State} {r : Record} (ht : Admission s r t) (hk : kindFits r.source r.kind = true)
    (hs : s.SourcesInRange) : t.SourcesInRange := by
  have hr := hs r.source
  obtain ⟨-, -, -, hquota, -⟩ := id hr
  cases ht with
  | off h => exact hs
  | lost => exact hs.setSrc hr.lost
  | lostAtEmptyPool h => exact hs.setSrc hr.lost
  | displaced hi h => exact hs.displace hk hi (hr.queue_ne_nil h)
  | displacedAtEmptyPool hi h hq => exact State.SourcesInRange.displace (s := s.setPoolEmpty) hs hk hi hq
  | merged h rest hq =>
    refine hs.setSrc (hr.withQueue ?_)
    have hfits := hr.queue_fits
    rw [hq] at hfits
    obtain ⟨hlen, hone, hrec⟩ := hfits
    refine ⟨hlen, hone, ?_⟩
    intro x hx
    rcases List.mem_cons.mp hx with rfl | hx
    · exact hrec h List.mem_cons_self
    · exact hrec x (List.mem_cons_of_mem _ hx)
  | appended h hi hroom =>
    refine (hs.setSrc (hr.withQueue (hr.queue_fits.append rfl hk ?_ hi))).congr (by simp [State.allocate_append_eq])
    cases hint : isInterval r.source with
    | true => simp [hi hint]
    | false => have := hroom hint; omega

/-- An aging expiry keeps the table in range: no credit above 16 (R89). -/
theorem State.SourcesInRange.grantCredits {s : State} (hs : s.SourcesInRange) : s.grantCredits.SourcesInRange := by
  intro i
  rw [State.grantCredits_src]
  split
  · next h =>
    obtain ⟨hdepth, hone, hquota, hquota', hmissed, -, hrest⟩ := hs i
    exact ⟨hdepth, hone, hquota, hquota', hmissed, h.2, hrest⟩
  · exact hs i

/-- A record in range stays so with its credits cleared (R90). -/
theorem Source.InRange.withoutCredits {i : Fin 24} {q : Source} (h : q.InRange i) : { q with credits := 0 }.InRange i := by
  obtain ⟨hdepth, hone, hquota, hquota', hmissed, -, hrest⟩ := h
  exact ⟨hdepth, hone, hquota, hquota', hmissed, Nat.zero_le _, hrest⟩

/-- A record in range stays so with its missed count cleared (R115). -/
theorem Source.InRange.withoutMissed {i : Fin 24} {q : Source} (h : q.InRange i) : { q with missed := 0 }.InRange i := by
  obtain ⟨hdepth, hone, hquota, hquota', -, hrest⟩ := h
  exact ⟨hdepth, hone, hquota, hquota', Nat.zero_le _, hrest⟩

/-- An emptied record is in range (R20). -/
theorem Source.InRange.emptied {i : Fin 24} {q : Source} (h : q.InRange i) : q.emptied.InRange i :=
  (h.withQueue (queueFits_nil i)).withoutCredits

/-- A record after a take is in range (R115). -/
theorem Source.InRange.afterTake {i : Fin 24} {q : Source} {h : Record} {rest : List Record} (hr : q.InRange i)
    (hq : q.queue = h :: rest) : (q.afterTake rest).InRange i := by
  have hfits := hr.queue_fits
  rw [hq] at hfits
  have hbase := (hr.withQueue hfits.tail).withoutMissed
  unfold Source.afterTake
  split
  · exact hbase.withoutCredits
  · exact hbase

/-- The reset records are in range (R43). -/
theorem reset_sourcesInRange : State.reset.SourcesInRange := by decide

/-- What a take does: it finds no context, delivers the head record, or finds the queue empty (R114 to R116). -/
theorem State.takeEffect_cases (s : State) :
    (s.stack = [] ∧ s.takeEffect = { s with latch := .ofNoContext }) ∨
    (∃ c rest h t, s.stack = c :: rest ∧ (s.src c.source).queue = h :: t ∧ s.takeEffect =
      ({ s with
          latch := { result := .event, kind := some h.kind, source := c.source, datum := h.datum, stamp := h.stamp,
                     missed := (s.src c.source).missed },
          stack := c.countTaken :: rest }.setSrc c.source ((s.src c.source).afterTake t)).release 1) ∨
    (∃ c rest, s.stack = c :: rest ∧ (s.src c.source).queue = [] ∧ s.takeEffect =
      { s with latch := { result := .empty, kind := none, source := c.source, datum := 0, stamp := 0,
                          missed := (s.src c.source).missed } }.setSrc c.source { s.src c.source with missed := 0 }) := by
  obtain ⟨l, hs⟩ : ∃ l, s.stack = l := ⟨_, rfl⟩
  cases l with
  | nil => exact .inl ⟨hs, State.takeEffect_of_empty hs⟩
  | cons c rest =>
    cases hq : (s.src c.source).queue with
    | nil => exact .inr (.inr ⟨c, rest, hs, hq, by simp [State.takeEffect, hs, hq]⟩)
    | cons h t => exact .inr (.inl ⟨c, rest, h, t, hs, hq, by simp [State.takeEffect, hs, hq]⟩)

/-- A take keeps the table in range. -/
theorem State.SourcesInRange.takeEffect {s : State} (hs : s.SourcesInRange) : s.takeEffect.SourcesInRange := by
  rcases s.takeEffect_cases with ⟨-, h⟩ | ⟨c, rest, x, t, -, hq, h⟩ | ⟨c, rest, -, -, h⟩ <;> rw [h]
  · exact hs
  · exact State.SourcesInRange.setSrc (s := { s with latch := _, stack := _ }) hs ((hs c.source).afterTake hq)
  · exact State.SourcesInRange.setSrc (s := { s with latch := _ }) hs (hs c.source).withoutMissed

/-- The records of a CLEAR are emptied and their missed counts cleared (R149). -/
theorem State.clearWork_src (s : State) (i : Fin 24) : s.clearWork.src i = { (s.src i).emptied with missed := 0 } := by
  unfold State.clearWork State.src
  exact Vector.getElem_ofFn _

/-- Every move keeps the source records in range. -/
theorem Move.keeps_sourcesInRange (s t : State) (h : Move s t) (hs : s.SourcesInRange) : t.SourcesInRange := by
  cases h with
  | quiet h => exact hs.congr h.sources
  | clock | agePeriod | setLineCfg | drop => exact hs
  | countAging => exact hs.congr (by rw [State.countAging_eq])
  | sampleLines w => exact hs.congr (State.sampleLines_sources s w)
  | countBudget => exact hs.congr (by rw [State.countBudget_eq])
  | configure i q _ _ hrange => exact hs.setSrc (hrange (hs i))
  | arrive r hk => exact (s.admission r).keeps_sourcesInRange hk hs
  | credits => exact hs.grantCredits
  | push w _ _ => exact State.SourcesInRange.setSrc (s := { s with stack := _ }) hs (hs w).withoutCredits
  | take => exact hs.takeEffect
  | flush i => exact hs.setSrc (hs i).emptied
  | clear =>
    intro i
    rw [State.clearWork_src]
    exact (hs i).emptied.withoutMissed
  | reset => exact reset_sourcesInRange

/-- Settles O55: every move keeps the records in range, and a step is a run of moves. -/
theorem everyStepKeepsSourceRecordsInRange : Obligations.EveryStepKeepsSourceRecordsInRange :=
  fun _ _ hs hstep => step_keeps Move.keeps_sourcesInRange hstep hs

end Sys2Proof.Machine
end

section
/-! The pool's balance and the cleared credits under every move, and the statements about R4 and R90. -/

namespace Sys2Proof.Machine

/-! ### The sum of the depths -/

/-- The sum of the depths as a sum over the sources. -/
theorem State.totalDepth_eq_sum (s : State) : s.totalDepth = ∑ i : Fin 24, (s.src i).queue.length := by
  rw [Fin.sum_univ_def]; rfl

/-- The sum of the depths depends on the source table alone. -/
theorem State.totalDepth_congr {s t : State} (h : t.sources = s.sources) : t.totalDepth = s.totalDepth := by
  unfold State.totalDepth State.src; rw [h]

/-- Writing one record changes the sum by the change of its depth. -/
theorem State.totalDepth_setSrc (s : State) (i : Fin 24) (q : Source) :
    (s.setSrc i q).totalDepth + (s.src i).queue.length = s.totalDepth + q.queue.length := by
  simp only [State.totalDepth_eq_sum, State.src_setSrc]
  rw [← Finset.add_sum_erase _ _ (Finset.mem_univ i), ← Finset.add_sum_erase Finset.univ (fun j => (s.src j).queue.length) (Finset.mem_univ i)]
  have hrest : ∑ j ∈ Finset.univ.erase i, ((if j = i then q else s.src j).queue.length) =
      ∑ j ∈ Finset.univ.erase i, (s.src j).queue.length :=
    Finset.sum_congr rfl fun j hj => by rw [if_neg (Finset.ne_of_mem_erase hj)]
  rw [hrest, if_pos rfl]
  omega

/-- Writing a record of the same depth keeps the sum. -/
theorem State.totalDepth_setSrc_same {s : State} {i : Fin 24} {q : Source} (h : q.queue.length = (s.src i).queue.length) :
    (s.setSrc i q).totalDepth = s.totalDepth := by
  have := s.totalDepth_setSrc i q
  omega

/-! ### The balance under every move -/

/-- The balance depends on the source table and the free count alone. -/
theorem State.PoolBalanced.congr {s t : State} (hs : s.PoolBalanced) (h : t.sources = s.sources) (hf : t.freeCount = s.freeCount) :
    t.PoolBalanced := by
  unfold State.PoolBalanced
  rw [hf, State.totalDepth_congr h]
  exact hs

/-- A record of the same depth keeps the balance. -/
theorem State.PoolBalanced.setSrc {s : State} (hs : s.PoolBalanced) {i : Fin 24} {q : Source}
    (h : q.queue.length = (s.src i).queue.length) : (s.setSrc i q).PoolBalanced := by
  unfold State.PoolBalanced
  rw [State.totalDepth_setSrc_same h]
  exact hs

/-- A displacement keeps the depth, so the balance (R13). -/
theorem State.PoolBalanced.displace {s : State} (hs : s.PoolBalanced) {r : Record} (hne : (s.src r.source).queue ≠ []) :
    (s.displace r).PoolBalanced := by
  obtain ⟨e, rest, hq⟩ := List.exists_cons_of_ne_nil hne
  rw [State.displace_eq hq]
  exact State.PoolBalanced.setSrc hs (by simp [hq])

/-- Every admission keeps the balance: a record appended takes the slot allocated for it (R4, R9). -/
theorem Admission.keeps_poolBalanced {s t : State} {r : Record} (ht : Admission s r t) (hr : (s.src r.source).InRange r.source)
    (hs : s.PoolBalanced) : t.PoolBalanced := by
  cases ht with
  | off h => exact hs
  | lost => exact hs.setSrc rfl
  | lostAtEmptyPool h => exact hs.setSrc rfl
  | displaced hi h => exact hs.displace (hr.queue_ne_nil h)
  | displacedAtEmptyPool hi h hq => exact State.PoolBalanced.displace (s := s.setPoolEmpty) hs hq
  | merged h rest hq => exact hs.setSrc (by simp [hq])
  | appended h _ _ =>
    have hdepth : (s.append r).totalDepth = s.totalDepth + 1 := by
      have hsum := s.totalDepth_setSrc r.source { s.src r.source with queue := (s.src r.source).queue ++ [r] }
      simp only [List.length_append, List.length_singleton] at hsum
      change (s.append r).totalDepth + _ = _ at hsum
      omega
    have hsame : (s.allocate.append r).totalDepth = (s.append r).totalDepth :=
      State.totalDepth_congr (by rw [State.allocate_append_eq]; rfl)
    have hfree : (s.allocate.append r).freeCount = s.freeCount - 1 := by rw [State.allocate_append_eq]
    have hbal : s.freeCount + s.totalDepth = 64 := hs
    unfold State.PoolBalanced
    omega

/-- An aging expiry keeps every queue (R89). -/
theorem State.grantCredits_queue (s : State) (i : Fin 24) : (s.grantCredits.src i).queue = (s.src i).queue := by
  rw [State.grantCredits_src]; split <;> rfl

/-- An aging expiry keeps the balance. -/
theorem State.PoolBalanced.grantCredits {s : State} (hs : s.PoolBalanced) : s.grantCredits.PoolBalanced := by
  have hdepth : s.grantCredits.totalDepth = s.totalDepth := by
    simp only [State.totalDepth_eq_sum, State.grantCredits_queue]
  have hfree : s.grantCredits.freeCount = s.freeCount := by unfold State.grantCredits; rfl
  unfold State.PoolBalanced
  rw [hdepth, hfree]
  exact hs

/-- A flush releases the slots of the queue it empties (R20). -/
theorem State.PoolBalanced.flushSource {s : State} (hs : s.PoolBalanced) (i : Fin 24) : (s.flushSource i).PoolBalanced := by
  have hsum := s.totalDepth_setSrc i (s.src i).emptied
  have hnil : (s.src i).emptied.queue.length = 0 := rfl
  have hbal : s.freeCount + s.totalDepth = 64 := hs
  have hfree : s.freeCount + (s.src i).queue.length + (s.setSrc i (s.src i).emptied).totalDepth = 64 := by omega
  exact hfree

/-- A take releases the slot of the record it delivers (R115). -/
theorem State.PoolBalanced.takeEffect {s : State} (hs : s.PoolBalanced) : s.takeEffect.PoolBalanced := by
  rcases s.takeEffect_cases with ⟨-, h⟩ | ⟨c, rest, x, t, -, hq, h⟩ | ⟨c, rest, -, -, h⟩ <;> rw [h]
  · exact hs
  · have hsum := s.totalDepth_setSrc c.source ((s.src c.source).afterTake t)
    have hlen : ((s.src c.source).afterTake t).queue.length = t.length := rfl
    rw [hq, List.length_cons, hlen] at hsum
    have hbal : s.freeCount + s.totalDepth = 64 := hs
    have hfree : s.freeCount + 1 + (s.setSrc c.source ((s.src c.source).afterTake t)).totalDepth = 64 := by omega
    exact hfree
  · exact State.PoolBalanced.setSrc (s := { s with latch := _ }) hs rfl

/-- A CLEAR leaves no record and 64 free slots (R149). -/
theorem State.clearWork_poolBalanced (s : State) : s.clearWork.PoolBalanced := by
  have hdepth : s.clearWork.totalDepth = 0 := by simp [State.totalDepth_eq_sum, State.clearWork_src, Source.emptied]
  unfold State.PoolBalanced
  rw [hdepth]
  rfl

/-- The reset pool is balanced (R22). -/
theorem reset_poolBalanced : State.reset.PoolBalanced := by decide

/-- Every move keeps records in range over a balanced pool. -/
theorem Move.keeps_poolBalanced (s t : State) (h : Move s t) (hs : s.SourcesInRange ∧ s.PoolBalanced) :
    t.SourcesInRange ∧ t.PoolBalanced := by
  refine ⟨h.keeps_sourcesInRange s t hs.1, ?_⟩
  obtain ⟨hrange, hs⟩ := hs
  cases h with
  | quiet h => exact hs.congr h.sources h.freeCount
  | clock | agePeriod | setLineCfg | drop => exact hs
  | countAging => exact hs.congr (by rw [State.countAging_eq]) (by rw [State.countAging_eq])
  | sampleLines w => exact hs.congr (State.sampleLines_sources s w) (State.sampleLines_freeCount s w)
  | countBudget => exact hs.congr (by rw [State.countBudget_eq]) (by rw [State.countBudget_eq])
  | configure i q hqueue _ _ => exact hs.setSrc (by rw [hqueue])
  | arrive r hk => exact (s.admission r).keeps_poolBalanced (hrange _) hs
  | credits => exact hs.grantCredits
  | push w _ _ => exact State.PoolBalanced.setSrc (s := { s with stack := _ }) hs rfl
  | take => exact hs.takeEffect
  | flush i => exact hs.flushSource i
  | clear => exact s.clearWork_poolBalanced
  | reset => exact reset_poolBalanced

/-- Settles O56: every move keeps the ranges and the balance, and a balanced free count fits the byte that FREE_COUNT reads. -/
theorem everyStepKeepsThePoolBalanced : Obligations.EveryStepKeepsThePoolBalanced := by
  refine ⟨fun s t hrange hbal hstep => ?_, reset_sourcesInRange, reset_poolBalanced⟩
  obtain ⟨-, ht⟩ := step_keeps Move.keeps_poolBalanced hstep ⟨hrange, hbal⟩
  have hle : t.freeCount ≤ 64 := by have : t.freeCount + t.totalDepth = 64 := ht; omega
  refine ⟨ht, hle, ?_⟩
  have hread : t.windowRead .freeCount = BitVec.ofNat 8 t.freeCount := rfl
  rw [hread, BitVec.toNat_ofNat]
  omega

/-! ### Eligibility and the stack -/

/-- The derived state of a source on the stack is ACTIVE or PREEMPTED; of another it follows its queue (R31). -/
theorem State.sourceState_of_not_onStack {s : State} {i : Fin 24} (h : s.onStack i = false) :
    s.sourceState i = if (s.src i).queue.isEmpty then .idle else .pending := by
  unfold State.sourceState
  unfold State.onStack at h
  cases hs : s.stack with
  | nil => rfl
  | cons c rest =>
    rw [hs, List.any_cons, Bool.or_eq_false_iff] at h
    have hc : c.source ≠ i := by simpa using h.1
    simp [hc, h.2]

/-- A source on the stack is ACTIVE or PREEMPTED (R31). -/
theorem State.sourceState_of_onStack {s : State} {i : Fin 24} (h : s.onStack i = true) :
    s.sourceState i = .active ∨ s.sourceState i = .preempted := by
  unfold State.sourceState
  unfold State.onStack at h
  cases hs : s.stack with
  | nil => simp [hs] at h
  | cons c rest =>
    rw [hs, List.any_cons, Bool.or_eq_true] at h
    by_cases hc : c.source = i
    · exact .inl (by simp [hc])
    · have hrest : (rest.any fun d => d.source == i) = true := h.resolve_left (by simpa using hc)
      exact .inr (by simp [hc, hrest])

/-- A source is eligible exactly when BID is on, its queue is not empty and it is the source of no context (R32). -/
theorem State.eligible_iff {s : State} {i : Fin 24} :
    s.eligible i = true ↔ (s.src i).bid = true ∧ (s.src i).queue ≠ [] ∧ s.onStack i = false := by
  unfold State.eligible
  cases hon : s.onStack i with
  | false =>
    rw [State.sourceState_of_not_onStack hon]
    cases (s.src i).queue <;> simp
  | true => rcases State.sourceState_of_onStack hon with h | h <;> simp [h]

/-! ### The credits under every move -/

/-- Cleared credits depend on the records and on which sources are on the stack. -/
theorem State.CreditsCleared.congr {s t : State} (hs : s.CreditsCleared) (h : t.sources = s.sources)
    (hstack : t.stack.map Context.source = s.stack.map Context.source) : t.CreditsCleared := by
  intro i hi
  have hsrc : t.src i = s.src i := by unfold State.src; rw [h]
  rw [hsrc] at hi ⊢
  rw [State.onStack_congr hstack] at hi
  exact hs i hi

/-- A record keeps its credits cleared when it keeps its credits, or has none, and does not lose its last record with credits left. -/
theorem State.CreditsCleared.setSrc {s : State} (hs : s.CreditsCleared) {i : Fin 24} {q : Source}
    (hq : q.queue = [] ∨ s.onStack i = true → q.credits = 0) : (s.setSrc i q).CreditsCleared := by
  intro j hj
  have hon : (s.setSrc i q).onStack j = s.onStack j := rfl
  rw [hon] at hj
  rw [State.src_setSrc] at hj ⊢
  split
  · next h =>
    rw [if_pos h, h] at hj
    exact hq hj
  · next h =>
    rw [if_neg h] at hj
    exact hs j hj

/-- Every admission keeps the credits cleared: it writes no credits and empties no queue. -/
theorem State.CreditsCleared.admitArrival {s : State} (hs : s.CreditsCleared) (r : Record) : (s.admitArrival r).2.CreditsCleared := by
  intro i hi
  have hframe := s.admit_frame r
  have hcredits : ((s.admitArrival r).2.src i).credits = (s.src i).credits := by
    by_cases h : i = r.source
    · rw [h]; exact hframe.credits
    · rw [hframe.others i h]
  have hon : (s.admitArrival r).2.onStack i = s.onStack i := State.onStack_congr (by rw [hframe.rest]) i
  rw [hcredits]
  rw [hon] at hi
  exact hs i (hi.imp_left fun h => by_contra fun hne => s.admit_queue_ne_nil r i hne h)

/-- An aging expiry keeps the credits cleared: only eligible sources gain one (R89). -/
theorem State.CreditsCleared.grantCredits {s : State} (hs : s.CreditsCleared) : s.grantCredits.CreditsCleared := by
  intro i hi
  have hon : s.grantCredits.onStack i = s.onStack i := State.onStack_congr (by rw [s.grantCredits_frame.rest]) i
  rw [hon, State.grantCredits_queue] at hi
  have hnot : s.eligible i = false := by
    by_contra he
    obtain ⟨-, hqueue, hstack⟩ := State.eligible_iff.mp (Bool.not_eq_false _ ▸ he)
    rcases hi with h | h
    · exact hqueue h
    · simp [hstack] at h
  rw [State.grantCredits_src, if_neg (by simp [hnot])]
  exact hs i hi

/-- A take keeps the credits cleared: it clears them with the last record (R115, R90). -/
theorem State.CreditsCleared.takeEffect {s : State} (hs : s.CreditsCleared) : s.takeEffect.CreditsCleared := by
  rcases s.takeEffect_cases with ⟨-, h⟩ | ⟨c, rest, x, t, hstack, hq, h⟩ | ⟨c, rest, -, -, h⟩ <;> rw [h]
  · exact hs
  · have hbase : { s with stack := c.countTaken :: rest }.CreditsCleared :=
      hs.congr rfl (by simp [hstack, Context.countTaken])
    have hon : s.onStack c.source = true := State.onStack_iff.mpr (by simp [hstack])
    have hzero : (s.src c.source).credits = 0 := hs c.source (.inr hon)
    exact State.CreditsCleared.setSrc (s := { s with latch := _, stack := _ }) hbase fun _ => by
      simp [Source.afterTake, hzero]
  · exact State.CreditsCleared.setSrc (s := { s with latch := _ }) hs (hs c.source)

/-- A push clears the credits of the source it puts on the stack (R90). -/
theorem State.CreditsCleared.push {s : State} (hs : s.CreditsCleared) (w : Fin 24) : (s.push w).CreditsCleared := by
  intro i hi
  have hstack : (s.push w).stack.map Context.source = w :: s.stack.map Context.source := by
    rw [State.push_stack, List.map_cons, map_source_onTop Context.pause_source, State.newContext_source]
  have hsrc : (s.push w).src i = if i = w then { s.src w with credits := 0 } else s.src i :=
    State.src_setSrc { s with stack := _ } w i _
  rw [hsrc] at hi ⊢
  split
  · rfl
  · next h =>
    rw [if_neg h, State.onStack_iff, hstack, List.mem_cons, or_iff_right h, ← State.onStack_iff] at hi
    exact hs i hi

/-- Dropping the top puts no source on the stack. -/
theorem State.CreditsCleared.drop {s : State} (hs : s.CreditsCleared) :
    { s with stack := onTop Context.resume s.stack.tail }.CreditsCleared := by
  intro i hi
  refine hs i (hi.imp_right fun h => ?_)
  rw [State.onStack_iff] at h ⊢
  simp only [map_source_onTop Context.resume_source] at h
  exact List.map_subset _ (List.tail_subset _) h

/-- The reset records have no credits (R43). -/
theorem reset_creditsCleared : State.reset.CreditsCleared := by decide

/-- Every move keeps the credits cleared. -/
theorem Move.keeps_creditsCleared (s t : State) (h : Move s t) (hs : s.CreditsCleared) : t.CreditsCleared := by
  cases h with
  | quiet h => exact hs.congr h.sources (by rw [h.stack])
  | clock | agePeriod | setLineCfg => exact hs
  | drop => exact hs.drop
  | countAging => exact hs.congr (by rw [State.countAging_eq]) (by rw [State.countAging_eq])
  | sampleLines w => exact hs.congr (State.sampleLines_sources s w) (by rw [State.sampleLines_stack])
  | countBudget => exact hs.congr (by rw [State.countBudget_eq]) s.countBudget_stack.2
  | configure i q hqueue hcredits _ =>
    refine hs.setSrc ?_
    rw [hqueue, hcredits]
    exact hs i
  | arrive r _ => exact hs.admitArrival r
  | credits => exact hs.grantCredits
  | push w _ _ => exact hs.push w
  | take => exact hs.takeEffect
  | flush i => exact hs.setSrc fun _ => rfl
  | clear =>
    intro i _
    rw [State.clearWork_src]
    rfl
  | reset => exact reset_creditsCleared.congr rfl rfl

/-- Settles O57: every move keeps the credits cleared. -/
theorem everyStepKeepsIdleAndServedSourcesWithoutCredits : Obligations.EveryStepKeepsIdleAndServedSourcesWithoutCredits :=
  fun _ _ hs hstep => step_keeps Move.keeps_creditsCleared hstep hs

end Sys2Proof.Machine
end

section
/-! The stack, the counters and the event latch under every move, and the statements about R45 to R48, R65, R87, R88, R103, R104, R113 and R129. -/

namespace Sys2Proof.Machine

/-! ### One context -/

/-- Pausing keeps a context in range (R109). -/
theorem Context.InRange.pause {c : Context} (h : c.InRange) : c.pause.InRange := by
  unfold Context.pause
  split
  · next hr => simpa [Context.InRange, hr] using h
  · exact h

/-- Resuming keeps a context in range (R121). -/
theorem Context.InRange.resume {c : Context} (h : c.InRange) : c.resume.InRange := by
  unfold Context.resume
  split
  · next hp => simpa [Context.InRange, hp] using h
  · exact h

/-- A paused context is not RUNNING (R109). -/
theorem Context.pause_not_running (c : Context) : c.pause.bstate ≠ .running := by
  unfold Context.pause; split <;> simp_all

/-- A resumed context is not PAUSED (R121). -/
theorem Context.resume_not_paused (c : Context) : c.resume.bstate ≠ .paused := by
  unfold Context.resume; split <;> simp_all

/-- A delivery keeps a context in range: the taken count saturates (R115). -/
theorem Context.InRange.countTaken {c : Context} (h : c.InRange) : c.countTaken.InRange :=
  ⟨h.1, Nat.min_le_left _ _, h.2.2⟩

/-- An expiry keeps a context in range, demoted or not (R132, R133). -/
theorem Context.InRange.expire {c : Context} (h : c.InRange) (a : BudgetAction) : (c.expire a).InRange := by
  obtain ⟨hbid, htaken, -, hclass⟩ := h
  refine ⟨hbid, htaken, by simp [Context.expire], ?_⟩
  unfold Context.expire
  split
  · exact .inr ⟨rfl, rfl⟩
  · exact hclass.imp_right fun hexp => ⟨rfl, hexp.2⟩

/-- A RUNNING count of at least 2 lowered by 1 stays in range (R130). -/
theorem Context.InRange.countDown {c : Context} (h : c.InRange) (hr : c.bstate = .running) (h1 : c.remaining ≠ 1) :
    { c with remaining := c.remaining - 1 }.InRange := by
  obtain ⟨hbid, htaken, -, hclass⟩ := h
  have hne : c.remaining - 1 ≠ 0 := by
    intro h0
    exact h1 (by rw [← sub_eq_zero]; exact h0)
  exact ⟨hbid, htaken, iff_of_false hne (by simp [hr]), hclass⟩

/-- The context of a grant is in range: its bid lies in its class's range (R83, R108). -/
theorem State.newContext_inRange {s : State} (hs : s.SourcesInRange) (w : Fin 24) : (s.newContext w).InRange := by
  obtain ⟨hlow, hhigh⟩ := State.bidOf_bounds hs w
  have hcls := (s.src w).cls.isLt
  refine ⟨?_, Nat.zero_le _, ?_, .inl ?_⟩
  · change s.bidOf w ≤ 255
    omega
  · unfold State.newContext
    dsimp only
    split <;> simp_all
  · change (s.src w).cls.toNat = s.bidOf w / 32
    omega

/-! ### The stack under every move -/

/-- At most the top is RUNNING, by cases on the top. -/
theorem budgetsNested_cons {c : Context} {rest : List Context} :
    budgetsNested (c :: rest) = true ↔ c.bstate ≠ .paused ∧ ∀ d ∈ rest, d.bstate ≠ .running := by
  simp [budgetsNested]

/-- What holds of the contexts of a stack holds after a change of the top that keeps it. -/
theorem forall_mem_onTop {p : Context → Prop} {f : Context → Context} (hf : ∀ c, p c → p (f c)) {l : List Context}
    (h : ∀ c ∈ l, p c) : ∀ c ∈ onTop f l, p c := by
  cases l with
  | nil => exact h
  | cons d rest =>
    intro c hc
    rcases List.mem_cons.mp hc with rfl | hc
    · exact hf d (h d List.mem_cons_self)
    · exact h c (List.mem_cons_of_mem _ hc)

/-- Soundness depends on the stack alone. -/
theorem State.StackSound.congr {s t : State} (hs : s.StackSound) (h : t.stack = s.stack) : t.StackSound := by
  unfold State.StackSound
  rw [h]
  exact hs

/-- A stack stays sound when its top is changed to one of the same source, in range and not PAUSED. -/
theorem State.StackSound.changeTop {s t : State} {c d : Context} {rest : List Context} (hs : s.StackSound) (h : s.stack = c :: rest)
    (ht : t.stack = d :: rest) (hsource : d.source = c.source) (hd : d.InRange) (hpaused : d.bstate ≠ .paused) : t.StackSound := by
  obtain ⟨hlen, hnodup, hrange, hnest⟩ := hs
  rw [h] at hlen hnodup hrange hnest
  unfold State.StackSound
  rw [ht]
  refine ⟨hlen, by simpa [hsource] using hnodup, ?_, budgetsNested_cons.mpr ⟨hpaused, (budgetsNested_cons.mp hnest).2⟩⟩
  intro x hx
  rcases List.mem_cons.mp hx with rfl | hx
  · exact hd
  · exact hrange x (List.mem_cons_of_mem _ hx)

/-- A grant finds at most 5 contexts (R94). -/
theorem State.length_of_canGrant {s : State} {w : Fin 24} (h : s.canGrant w = true) : s.stack.length ≤ 5 := by
  unfold State.canGrant at h
  cases hs : s.stack with
  | nil => simp
  | cons c rest =>
    simp only [hs, Bool.and_eq_true, decide_eq_true_iff] at h
    omega

/-- After pausing no context of a sound stack is RUNNING (R109). -/
theorem State.StackSound.pause_not_running {s : State} (hs : s.StackSound) : ∀ d ∈ onTop Context.pause s.stack, d.bstate ≠ .running := by
  obtain ⟨-, -, -, hnest⟩ := hs
  cases h : s.stack with
  | nil => simp [onTop]
  | cons c rest =>
    rw [h] at hnest
    intro d hd
    rcases List.mem_cons.mp hd with rfl | hd
    · exact c.pause_not_running
    · exact (budgetsNested_cons.mp hnest).2 d hd

/-- A push for a winner that can be granted keeps the stack sound (R108, R109). -/
theorem State.StackSound.push {s : State} (hs : s.StackSound) (hrange : s.SourcesInRange) {w : Fin 24} (hw : s.winner = some w)
    (hg : s.canGrant w = true) : (s.push w).StackSound := by
  have hoff : s.onStack w = false := (State.eligible_iff.mp (State.bestOf_of_winner hw).eligible).2.2
  have hfresh : w ∉ s.stack.map Context.source := fun h => by simp [State.onStack_iff.mpr h] at hoff
  have hnew : (s.newContext w).bstate ≠ .paused := by unfold State.newContext; dsimp only; split <;> simp
  have hlen := State.length_of_canGrant hg
  refine ⟨?_, ?_, ?_, ?_⟩
  · rw [State.push_stack, List.length_cons, onTop_length]
    omega
  · rw [State.push_stack, List.map_cons, map_source_onTop Context.pause_source, State.newContext_source]
    exact List.nodup_cons.mpr ⟨hfresh, hs.2.1⟩
  · rw [State.push_stack]
    intro c hc
    rcases List.mem_cons.mp hc with rfl | hc
    · exact State.newContext_inRange hrange w
    · exact forall_mem_onTop (p := Context.InRange) (fun _ h => h.pause) hs.2.2.1 c hc
  · rw [State.push_stack]
    exact budgetsNested_cons.mpr ⟨hnew, hs.pause_not_running⟩

/-- Dropping the top and resuming the next keeps the stack sound (R120, R121). -/
theorem State.StackSound.drop {s : State} (hs : s.StackSound) :
    { s with stack := onTop Context.resume s.stack.tail }.StackSound := by
  obtain ⟨hlen, hnodup, hrange, hnest⟩ := hs
  refine ⟨?_, ?_, ?_, ?_⟩
  · simp only [onTop_length, List.length_tail]
    omega
  · simp only [map_source_onTop Context.resume_source]
    exact hnodup.sublist ((List.tail_sublist _).map _)
  · exact forall_mem_onTop (p := Context.InRange) (fun _ h => h.resume) fun c hc => hrange c (List.mem_of_mem_tail hc)
  · cases h : s.stack with
    | nil => rfl
    | cons c rest =>
      rw [h] at hnest
      have hbelow := (budgetsNested_cons.mp hnest).2
      cases rest with
      | nil => rfl
      | cons d below =>
        exact budgetsNested_cons.mpr ⟨d.resume_not_paused, fun x hx => hbelow x (List.mem_cons_of_mem _ hx)⟩

/-- A take keeps the stack sound: it counts the delivery at the top (R115). -/
theorem State.StackSound.takeEffect {s : State} (hs : s.StackSound) : s.takeEffect.StackSound := by
  rcases s.takeEffect_cases with ⟨-, h⟩ | ⟨c, rest, x, t, hstack, -, h⟩ | ⟨c, rest, -, -, h⟩ <;> rw [h]
  · exact hs
  · have hc : c.InRange := hs.2.2.1 c (by simp [hstack])
    have hnest := hs.2.2.2
    rw [hstack] at hnest
    exact hs.changeTop hstack rfl rfl hc.countTaken (budgetsNested_cons.mp hnest).1
  · exact hs

/-- What the Budget Unit's counting does to the stack: nothing, or it counts the RUNNING top down, or it expires it (R130, R132). -/
theorem State.countBudget_cases (s : State) :
    (s.countBudget = s ∧ ∀ c rest, s.stack = c :: rest → c.bstate ≠ .running) ∨
    (∃ c rest, s.stack = c :: rest ∧ c.bstate = .running ∧ c.remaining = 1 ∧
      s.countBudget = { s.setBudgetFlag with
        stack := c.expire (s.classBudget c.heldClass).action :: rest, alertSource := c.source }) ∨
    (∃ c rest, s.stack = c :: rest ∧ c.bstate = .running ∧ c.remaining ≠ 1 ∧
      s.countBudget = { s with stack := { c with remaining := c.remaining - 1 } :: rest }) := by
  obtain ⟨l, hs⟩ : ∃ l, s.stack = l := ⟨_, rfl⟩
  cases l with
  | nil => exact .inl ⟨by simp [State.countBudget, hs], by simp [hs]⟩
  | cons c rest =>
    by_cases hr : c.bstate = .running
    · by_cases h1 : c.remaining = 1
      · exact .inr (.inl ⟨c, rest, hs, hr, h1, by simp [State.countBudget, State.expireBudget, hs, hr, h1]⟩)
      · exact .inr (.inr ⟨c, rest, hs, hr, h1, by simp only [State.countBudget, hs, hr, h1, if_true, if_false]⟩)
    · refine .inl ⟨by simp [State.countBudget, hs, hr], ?_⟩
      intro d below hd
      rw [hs] at hd
      rwa [← (List.cons.inj hd).1]

/-- The Budget Unit's counting keeps the stack sound (R130, R132). -/
theorem State.StackSound.countBudget {s : State} (hs : s.StackSound) : s.countBudget.StackSound := by
  rcases s.countBudget_cases with ⟨h, -⟩ | ⟨c, rest, hstack, -, -, h⟩ | ⟨c, rest, hstack, hr, h1, h⟩ <;> rw [h]
  · exact hs
  · have hc : c.InRange := hs.2.2.1 c (by simp [hstack])
    exact hs.changeTop hstack rfl rfl (hc.expire _) (by simp [Context.expire])
  · have hc : c.InRange := hs.2.2.1 c (by simp [hstack])
    exact hs.changeTop hstack rfl rfl (hc.countDown hr h1) (by simp [hr])

/-- The empty stack is sound (R104). -/
theorem State.StackSound.of_empty {s : State} (h : s.stack = []) : s.StackSound := by
  simp [State.StackSound, h, budgetsNested]

/-- Every move keeps records in range under a sound stack. -/
theorem Move.keeps_stackSound (s t : State) (h : Move s t) (hs : s.SourcesInRange ∧ s.StackSound) :
    t.SourcesInRange ∧ t.StackSound := by
  refine ⟨h.keeps_sourcesInRange s t hs.1, ?_⟩
  obtain ⟨hrange, hs⟩ := hs
  cases h with
  | quiet h => exact hs.congr h.stack
  | clock | agePeriod | setLineCfg | configure | flush => exact hs
  | countAging => exact hs.congr (by rw [State.countAging_eq])
  | sampleLines w => exact hs.congr (State.sampleLines_stack s w)
  | countBudget => exact hs.countBudget
  | arrive r _ => exact hs.congr (by rw [(s.admit_frame r).rest])
  | credits => exact hs.congr (by rw [s.grantCredits_frame.rest])
  | push w hw hg => exact hs.push hrange hw hg
  | drop => exact hs.drop
  | take => exact hs.takeEffect
  | clear => exact .of_empty rfl
  | reset => exact .of_empty rfl

/-- Settles O58: every move keeps the ranges and the soundness of the stack. -/
theorem everyStepKeepsTheStackSound : Obligations.EveryStepKeepsTheStackSound :=
  fun _ _ hrange hs hstep => (step_keeps Move.keeps_stackSound hstep ⟨hrange, hs⟩).2

/-! ### The lines under every move -/

/-- A sample keeps a line in range: the run count stays below the filter count (R47, R48). -/
theorem Line.InRange.sample {l : Line} (h : l.InRange) (b : Bool) : (l.sample b).InRange := by
  obtain ⟨hrun, hfilter, hfilter', -⟩ := h
  unfold Line.sample
  split
  · exact ⟨Nat.zero_le _, hfilter, hfilter', by simp⟩
  next hseeded =>
  have hseeded : l.seeded = true := by simpa using hseeded
  split
  · exact ⟨Nat.zero_le _, hfilter, hfilter', by simp [hseeded]⟩
  split
  · exact ⟨by simp only; omega, hfilter, hfilter', by simp [hseeded]⟩
  · exact ⟨Nat.zero_le _, hfilter, hfilter', by simp [hseeded]⟩

/-- A stored filter count is within 1 to 15 (R50). -/
theorem filterOfByte_range (b : Byte) : 1 ≤ filterOfByte b ∧ filterOfByte b ≤ 15 := by
  have hlt := (b.extractLsb' 4 4).isLt
  unfold filterOfByte
  omega

/-- Line ranges depend on the lines alone. -/
theorem State.LinesInRange.congr {s t : State} (hs : s.LinesInRange) (h : t.lines = s.lines) : t.LinesInRange := by
  unfold State.LinesInRange
  rw [h]
  exact hs

/-- Every move keeps the lines in range. -/
theorem Move.keeps_linesInRange (s t : State) (h : Move s t) (hs : s.LinesInRange) : t.LinesInRange := by
  cases h with
  | quiet h => exact hs.congr h.lines
  | clock | agePeriod | configure | push | drop | flush | clear => exact hs
  | countAging => exact hs.congr (by rw [State.countAging_eq])
  | countBudget => exact hs.congr (by rw [State.countBudget_eq])
  | arrive r _ => exact hs.congr (by rw [(s.admit_frame r).rest])
  | credits => exact hs.congr (by rw [s.grantCredits_frame.rest])
  | take => rcases s.takeEffect_cases with ⟨-, h⟩ | ⟨_, _, _, _, -, -, h⟩ | ⟨_, _, -, -, h⟩ <;> rw [h] <;> exact hs
  | sampleLines w =>
    intro n
    simp only [State.sampleLines_lines, Fin.getElem_fin, Vector.getElem_ofFn]
    exact (hs n).sample _
  | setLineCfg n b =>
    intro k
    simp only [State.setLineCfg_lines, Fin.getElem_fin, Vector.getElem_set]
    split
    · next hk =>
      have hn : k = n := Fin.ext hk.symm
      subst hn
      obtain ⟨hrun, -, -, hunseeded⟩ := hs k
      exact ⟨hrun, (filterOfByte_range b).1, (filterOfByte_range b).2, hunseeded⟩
    · exact hs k
  | reset =>
    have hreset : State.reset.LinesInRange := by decide
    exact hreset.congr rfl

/-! ### The aging count and the CLK count under every move -/

/-- The aging count is sound by the two fields alone. -/
theorem State.AgingSound.congr {s t : State} (hs : s.AgingSound) (hp : t.agePeriod = s.agePeriod) (hc : t.agingCount = s.agingCount) :
    t.AgingSound := by
  unfold State.AgingSound
  rw [hp, hc]
  exact hs

/-- The Aging Unit's counting keeps its count sound: not at 1 it falls by 1, and at 1 it is loaded again (R88). -/
theorem State.AgingSound.countAging {s : State} (hs : s.AgingSound) : s.countAging.AgingSound := by
  obtain ⟨hzero, hle⟩ := hs
  unfold State.countAging
  split
  · next h => exact ⟨hzero, hle⟩
  next hp =>
  split
  · exact ⟨Iff.rfl, le_refl _⟩
  · next h1 =>
    have h0 : s.agingCount ≠ 0 := fun h => hp (hzero.mp h)
    have hne : s.agingCount - 1 ≠ 0 := fun h => h1 (by rw [← sub_eq_zero]; exact h)
    refine ⟨iff_of_false hne hp, ?_⟩
    change (s.agingCount - 1).toNat ≤ s.agePeriod.toNat
    bv_omega

/-- Every move keeps the aging count sound. -/
theorem Move.keeps_agingSound (s t : State) (h : Move s t) (hs : s.AgingSound) : t.AgingSound := by
  cases h with
  | quiet h => exact hs.congr h.agePeriod h.agingCount
  | clock | setLineCfg | configure | push | drop | flush | clear => exact hs
  | agePeriod v => exact ⟨Iff.rfl, le_refl _⟩
  | countAging => exact hs.countAging
  | countBudget => exact hs.congr (by rw [State.countBudget_eq]) (by rw [State.countBudget_eq])
  | arrive r _ => exact hs.congr (by rw [(s.admit_frame r).rest]) (by rw [(s.admit_frame r).rest])
  | credits => exact hs.congr (by rw [s.grantCredits_frame.rest]) (by rw [s.grantCredits_frame.rest])
  | take => rcases s.takeEffect_cases with ⟨-, h⟩ | ⟨_, _, _, _, -, -, h⟩ | ⟨_, _, -, -, h⟩ <;> rw [h] <;> exact hs
  | sampleLines w => exact hs.congr (State.sampleLines_agePeriod s w) (State.sampleLines_agingCount s w)
  | reset => exact ⟨Iff.rfl, le_refl _⟩

/-- The CLK count is sound by the two fields alone. -/
theorem State.ClockSound.congr {s t : State} (hs : s.ClockSound) (hc : t.clkCount = s.clkCount)
    (hd : t.intervalDivider = s.intervalDivider) : t.ClockSound := by
  unfold State.ClockSound
  rw [hc, hd]
  exact hs

/-- Every move keeps the CLK count below the tick period. -/
theorem Move.keeps_clockSound (s t : State) (h : Move s t) (hs : s.ClockSound) : t.ClockSound := by
  cases h with
  | quiet h => exact hs.congr h.clkCount h.intervalDivider
  | clock c d h => exact h
  | agePeriod | setLineCfg | configure | push | drop | flush | clear => exact hs
  | countAging => exact hs.congr (by rw [State.countAging_eq]) (by rw [State.countAging_eq])
  | countBudget => exact hs.congr (by rw [State.countBudget_eq]) (by rw [State.countBudget_eq])
  | arrive r _ => exact hs.congr (by rw [(s.admit_frame r).rest]) (by rw [(s.admit_frame r).rest])
  | credits => exact hs.congr (by rw [s.grantCredits_frame.rest]) (by rw [s.grantCredits_frame.rest])
  | take => rcases s.takeEffect_cases with ⟨-, h⟩ | ⟨_, _, _, _, -, -, h⟩ | ⟨_, _, -, -, h⟩ <;> rw [h] <;> exact hs
  | sampleLines w => exact hs.congr (State.sampleLines_clkCount s w) (State.sampleLines_intervalDivider s w)
  | reset => exact tickPeriod_pos _

/-- Settles O59: every move keeps each of the three counts in range. -/
theorem everyStepKeepsTheCountersInRange : Obligations.EveryStepKeepsTheCountersInRange :=
  fun _ _ hstep => ⟨step_keeps Move.keeps_linesInRange hstep, step_keeps Move.keeps_agingSound hstep,
    step_keeps Move.keeps_clockSound hstep⟩

/-! ### The event latch under every move -/

/-- The latch is sound by its own fields. -/
theorem State.LatchSound.congr {s t : State} (hs : s.LatchSound) (h : t.latch = s.latch) : t.LatchSound := by
  unfold State.LatchSound
  rw [h]
  exact hs

/-- A take leaves the latch sound: a kind with EVENT alone, and a missed count that was in range (R113). -/
theorem State.takeEffect_latchSound {s : State} (hrange : s.SourcesInRange) : s.takeEffect.LatchSound := by
  have hmissed : ∀ i, (s.src i).missed ≤ 255 := fun i => by
    obtain ⟨-, -, -, -, h, -⟩ := hrange i
    exact h
  rcases s.takeEffect_cases with ⟨-, h⟩ | ⟨c, _, _, _, -, -, h⟩ | ⟨c, _, -, -, h⟩ <;> rw [h]
  · simp [State.LatchSound, EventLatch.ofNoContext]
  · simpa [State.LatchSound] using hmissed c.source
  · simpa [State.LatchSound] using hmissed c.source

/-- The reset latch is sound (R102). -/
theorem reset_latchSound : State.reset.LatchSound := by decide

/-- Every move keeps records in range with a sound latch. -/
theorem Move.keeps_latchSound (s t : State) (h : Move s t) (hs : s.SourcesInRange ∧ s.LatchSound) :
    t.SourcesInRange ∧ t.LatchSound := by
  refine ⟨h.keeps_sourcesInRange s t hs.1, ?_⟩
  obtain ⟨hrange, hs⟩ := hs
  cases h with
  | quiet h => exact hs.congr h.latch
  | clock | agePeriod | setLineCfg | configure | push | drop | flush => exact hs
  | countAging => exact hs.congr (by rw [State.countAging_eq])
  | countBudget => exact hs.congr (by rw [State.countBudget_eq])
  | arrive r _ => exact hs.congr (by rw [(s.admit_frame r).rest])
  | credits => exact hs.congr (by rw [s.grantCredits_frame.rest])
  | sampleLines w => exact hs.congr (State.sampleLines_latch s w)
  | take => exact State.takeEffect_latchSound hrange
  | clear => exact reset_latchSound.congr rfl
  | reset => exact reset_latchSound

/-- Settles O60: every move keeps the ranges and the soundness of the latch. -/
theorem everyStepKeepsTheLatchSound : Obligations.EveryStepKeepsTheLatchSound :=
  fun _ _ hrange hs hstep => (step_keeps Move.keeps_latchSound hstep ⟨hrange, hs⟩).2

/-! ### The reset state -/

/-- Settles O54: the reset values lie within every range. -/
theorem resetMeetsEveryRange : Obligations.ResetMeetsEveryRange :=
  ⟨reset_sourcesInRange, reset_poolBalanced, reset_creditsCleared, .of_empty rfl, by decide, ⟨Iff.rfl, le_refl _⟩,
    tickPeriod_pos _, reset_latchSound⟩

end Sys2Proof.Machine
end

section
/-! The queue of commands, the RESET_N pin and the bus pins (08, sections 1 and 4): what a step takes, what a low RESET_N ignores, the bytes after
reset and the cycles of the pins, with their statements. -/

namespace Sys2Proof.Machine

/-! ### The step -/

/-- Settles O1: a step on a non-empty queue is its front command. -/
theorem stepTakesTheFrontCommand : Obligations.StepTakesTheFrontCommand := by
  intro s c rest hq
  simp only [step, hq]

/-! ### RESET_N low -/

/-- With RESET_N low a command that drives nothing has no effect (R150). -/
theorem unlessReset_low {s : State} (h : s.resetLow = true) (f : State → State) : unlessReset s f = s.undriven := by
  simp [unlessReset, h]

/-- With RESET_N low a reading cycle has no effect (R150). -/
theorem readUnlessReset_low {s : State} (h : s.resetLow = true) (f : State → Byte × State) : readUnlessReset s f = s.undriven := by
  simp [readUnlessReset, h]

/-- While RESET_N is low no tick comes (R66, R150). -/
theorem State.not_ticking_of_low {s : State} (h : s.resetLow = true) : s.ticking = false := by
  simp [State.ticking, h]

/-- With RESET_N low every command but the two of the pin has no effect (R150). -/
theorem exec_of_low {s : State} (h : s.resetLow = true) (c : Instr) (hlow : c ≠ .resetNLow) (hrel : c ≠ .resetNRelease) :
    exec c s = .next s.undriven := by
  have htick := State.not_ticking_of_low h
  induction c using Instr.byCycle with
  | resetNLow => exact absurd rfl hlow
  | resetNRelease => exact absurd rfl hrel
  | tick w => simp [exec, execTick, htick]
  | timerExpiry n => simp [exec, execTimerExpiry, htick]
  | agingExpiry => simp [exec, execAgingExpiry, htick]
  | budgetExpiry => simp [exec, execBudgetExpiry, htick]
  | grant => rw [exec_grant, readUnlessReset_low h]
  | acknowledgeCycle cs a => rw [exec_acknowledgeCycle_eq_grant, exec_grant, readUnlessReset_low h]
  | take => rw [exec_take, readUnlessReset_low h]
  | lowByteRead v => simp only [exec, execLowByteRead, readUnlessReset_low h]
  | write r b => rw [exec_writeCommand, unlessReset_low h]
  | registerWrite r b => rw [exec_registerWrite, unlessReset_low h]

/-- No bus cycle is a command of the RESET_N pin (R141). -/
theorem Cycle.command_ne_reset {y : Cycle} {c : Instr} (h : y.command = some c) : c ≠ .resetNLow ∧ c ≠ .resetNRelease := by
  cases y with
  | read r => cases r <;> simp [Cycle.command, Reg.readCommand] at h <;> simp [← h]
  | write r b => cases r <;> simp [Cycle.command, Reg.writeCommand] at h <;> simp [← h]
  | acknowledge cs a => simp [Cycle.command] at h; simp [← h]
  | noCycle => simp [Cycle.command] at h

/-- With RESET_N low no bus cycle has an effect (R150). -/
theorem State.busCycle_of_low {s : State} (h : s.resetLow = true) (y : Cycle) : s.busCycle y = .next s.undriven := by
  cases hc : y.command with
  | some c =>
    obtain ⟨hlow, hrel⟩ := Cycle.command_ne_reset hc
    rw [State.busCycle_of_command hc, exec_of_low h c hlow hrel]
  | none =>
    rcases State.busCycle_of_no_command hc s with ⟨r, -, hread⟩ | ⟨-, hnone⟩
    · rw [hread, State.readCycle, readUnlessReset_low h]
    · exact hnone

/-- Settles O4: every command and every cycle runs in a wrapper that looks at RESET_N first. -/
theorem lowResetIgnoresEveryOtherCommand : Obligations.LowResetIgnoresEveryOtherCommand := by
  intro c p s hlow
  refine ⟨fun hc hc' => exec_of_low hlow c hc hc', State.busCycle_of_low hlow _, ?_, ?_⟩
  · simp [State.reqAsserted, hlow]
  · simp [State.alertAsserted, hlow]

/-! ### The edges of RESET_N -/

/-- With no flag set ALERT_N is released (R137). -/
theorem State.alertAsserted_of_flags_off {s : State} (h : s.flags = AlertBits.off) : s.alertAsserted = false := by
  simp [State.alertAsserted, AlertBits.anyEnabled, h, AlertBits.off]

/-- While every queue is empty there is no winner, so REQ_N is released (R32, R96). -/
theorem State.reqAsserted_of_queues_empty {s : State} (h : ∀ i, (s.src i).queue = []) : s.reqAsserted = false := by
  have hnone : s.winner = none := by
    rw [State.winner_eq_none_iff]
    intro i
    by_contra he
    exact (State.eligible_iff.mp (Bool.not_eq_false _ ▸ he)).2.1 (h i)
  simp [State.reqAsserted, State.grantCondition, hnone]

/-- After reset every queue is empty (R22). -/
theorem reset_queue (i : Fin 24) : (State.reset.src i).queue = [] := by
  revert i; decide

/-- Settles O5: both edges leave the reset values, in which no flag is set and no source is eligible. -/
theorem resetPinEdges : Obligations.ResetPinEdges := by
  intro s
  refine ⟨⟨_, rfl, rfl, ?_, ?_⟩, fun hlow => ⟨s.hardwareReset, ?_, rfl, ?_, ?_⟩, fun hhigh => ?_⟩
  · exact State.reqAsserted_of_queues_empty reset_queue
  · exact State.alertAsserted_of_flags_off rfl
  · simp only [exec, execResetNRelease, hlow, if_true]
  · exact State.reqAsserted_of_queues_empty reset_queue
  · exact State.alertAsserted_of_flags_off rfl
  · have hrel : exec .resetNRelease s = .next (if s.resetLow then s.hardwareReset else s.undriven) := rfl
    rw [hrel, if_neg (by simp [hhigh])]
    rfl

/-! ### The bytes after reset -/

/-- After reset every view's latch holds 00h (R150). -/
theorem reset_latched (v : View) : State.reset.latched v = 0 := by
  cases v <;> decide

/-- Settles O6: the reset values read through the window; a high byte reads its view's latch, which holds 00h. -/
theorem resetBytesAreTheMapsResetColumn : Obligations.ResetBytesAreTheMapsResetColumn := by
  refine ⟨by decide, by decide, by decide, by decide, by decide, by decide, by decide, by decide, by decide, by decide, fun v => ?_⟩
  rw [State.windowRead_high, State.highByte_of_latched_zero (reset_latched v)]

/-! ### The cycles of the pins -/

/-- A register whose read is a command is GRANT, TAKE or the low byte of a view (R107, R113, R144). -/
theorem Reg.readCommand_eq_none {r : Reg} (hcmd : r ∉ ([.grant, .take] : List Reg)) (hlow : ∀ v : View, r ≠ v.low) :
    r.readCommand = none := by
  cases r
  case grant | take => simp at hcmd
  case latchStampL => exact absurd rfl (hlow .latchStamp)
  case agePeriodL => exact absurd rfl (hlow .agePeriod)
  case tbDivL => exact absurd rfl (hlow .tbDiv)
  case stampL => exact absurd rfl (hlow .stamp)
  case lineRawL => exact absurd rfl (hlow .lineRaw)
  case lineQualL => exact absurd rfl (hlow .lineQual)
  case timerPeriodL => exact absurd rfl (hlow .timerPeriod)
  case timerCountL => exact absurd rfl (hlow .timerCount)
  case budgetL => exact absurd rfl (hlow .budget)
  case ctxStampL => exact absurd rfl (hlow .ctxStamp)
  case ctxBudgetL => exact absurd rfl (hlow .ctxBudget)
  all_goals rfl

/-- The byte of a plain read does not depend on what D7 to D0 carried before. -/
theorem State.undriven_windowRead (s : State) {r : Reg} (h : r.readCommand = none) : s.undriven.windowRead r = s.windowRead r := by
  cases r
  case grant | take => simp [Reg.readCommand] at h
  all_goals rfl

/-- With RESET_N not low a plain read drives its register's byte and changes nothing else (R142). -/
theorem State.busCycle_plain_read {s : State} {r : Reg} (h : s.resetLow = false) (hr : r.readCommand = none) :
    s.busCycle (.read r) = .next { s with dataOut := some (s.windowRead r) } := by
  have hcycle : s.busCycle (.read r) = .next (s.readCycle r) := by simp [State.busCycle, hr]
  rw [hcycle, State.readCycle, readUnlessReset_high h, State.undriven_windowRead s hr]
  rfl

/-- Settles O7: the decoding of the four pins by cases, and the effect of each cycle. -/
theorem busPinsMakeTheCycleOfTheTable : Obligations.BusPinsMakeTheCycleOfTheTable := by
  intro a d x y s
  refine ⟨rfl, rfl, by cases x <;> rfl, rfl, by cases y <;> rfl, rfl, rfl, by cases y <;> rfl, rfl, fun hhigh => ⟨?_, rfl, rfl, rfl⟩⟩
  intro hcmd hlow
  exact State.busCycle_plain_read hhigh (Reg.readCommand_eq_none hcmd hlow)

end Sys2Proof.Machine
end

section
/-! The tick outside its works (04, 03, 07): the fields the units' counting leaves, and the statements about the Timebase, the qualification of the
lines, the budget of the top context and the CLK periods of an interval. -/

namespace Sys2Proof.Machine

/-! ### What the works of a tick leave -/

section
variable {s t : State} (h : WorkFrame s t)
include h

theorem WorkFrame.timestamp : t.timestamp = s.timestamp := by rw [h.rest]
theorem WorkFrame.clkCount : t.clkCount = s.clkCount := by rw [h.rest]
theorem WorkFrame.intervalDivider : t.intervalDivider = s.intervalDivider := by rw [h.rest]
theorem WorkFrame.dataOut : t.dataOut = s.dataOut := by rw [h.rest]
theorem WorkFrame.lines : t.lines = s.lines := by rw [h.rest]
theorem WorkFrame.timers : t.timers = s.timers := by rw [h.rest]
theorem WorkFrame.agingCount : t.agingCount = s.agingCount := by rw [h.rest]
theorem WorkFrame.stack : t.stack = s.stack := by rw [h.rest]
theorem WorkFrame.lowMark : t.lowMark = s.lowMark := by rw [h.rest]
theorem WorkFrame.alertSource : t.alertSource = s.alertSource := by rw [h.rest]
theorem WorkFrame.settings : t.settings = s.settings := by rw [h.rest]; rfl

/-- Works keep which sources are on the stack. -/
theorem WorkFrame.onStack (i : Fin 24) : t.onStack i = s.onStack i := State.onStack_congr (by rw [h.stack]) i

/-- Works keep the octets: they change no line. -/
theorem WorkFrame.octet (n : Fin 16) : t.octet n = s.octet n := by
  unfold State.octet State.qualWord
  rw [h.lines]

end

/-- The state before the works of a tick: the Timebase advanced, the units' counting done, and the draw counter at `d`. -/
def State.counted (s : State) (w : Word) (d : Nat) : State := { s.advanceTime.countTick w with draws := d }

/-- A tick is its works, in some order, on the counted state (R70; log 5). -/
theorem State.tickEffect_foldl (s : State) (w : Word) :
    ∃ (l : List TickWork) (d : Nat), l.Perm (tickWorks (s.advanceTime.tickArrivals w) s.advanceTime.agingDue) ∧
      s.tickEffect w = l.foldl State.doWork (s.counted w d) := s.tickEffect_works w

/-- What a tick leaves of the counted state. -/
theorem State.tickEffect_frame (s : State) (w : Word) : ∃ d, WorkFrame (s.counted w d) (s.tickEffect w) := by
  obtain ⟨l, d, -, heq⟩ := s.tickEffect_foldl w
  exact ⟨d, heq ▸ State.foldl_doWork_frame l _⟩

section
variable (s : State) (w : Word) (d : Nat)

/-- The counted state, field by field (R65 to R67, R70). -/
theorem State.counted_eq : s.counted w d = { s.advanceTime with
    lines := (s.advanceTime.sampleLines w).lines
    timers := s.advanceTime.countTimers.timers
    agingCount := s.advanceTime.countAging.agingCount
    stack := s.advanceTime.countBudget.stack
    flags := { s.flags with budget := s.advanceTime.countBudget.flags.budget }
    alertSource := s.advanceTime.countBudget.alertSource
    draws := d } := by
  unfold State.counted
  rw [State.countTick_eq]
  rfl

@[simp] theorem State.counted_timestamp : (s.counted w d).timestamp = s.timestamp + 1 := by rw [State.counted_eq]; rfl
@[simp] theorem State.counted_clkCount : (s.counted w d).clkCount = 0 := by rw [State.counted_eq]; rfl
@[simp] theorem State.counted_intervalDivider : (s.counted w d).intervalDivider = s.divider :=
  by rw [State.counted_eq]; rfl
@[simp] theorem State.counted_dataOut : (s.counted w d).dataOut = s.dataOut := by rw [State.counted_eq]; rfl
@[simp] theorem State.counted_freeCount : (s.counted w d).freeCount = s.freeCount := by rw [State.counted_eq]; rfl
@[simp] theorem State.counted_lowMark : (s.counted w d).lowMark = s.lowMark := by rw [State.counted_eq]; rfl
@[simp] theorem State.counted_settings : (s.counted w d).settings = s.settings := by rw [State.counted_eq]; rfl
@[simp] theorem State.counted_src (i : Fin 24) : (s.counted w d).src i = s.src i := by rw [State.counted_eq]; rfl
@[simp] theorem State.counted_flags :
    (s.counted w d).flags = { s.flags with budget := s.advanceTime.countBudget.flags.budget } := by rw [State.counted_eq]
@[simp] theorem State.counted_agingCount : (s.counted w d).agingCount = s.advanceTime.countAging.agingCount :=
  by rw [State.counted_eq]
@[simp] theorem State.counted_stack : (s.counted w d).stack = s.advanceTime.countBudget.stack := by rw [State.counted_eq]
@[simp] theorem State.counted_alertSource : (s.counted w d).alertSource = s.advanceTime.countBudget.alertSource :=
  by rw [State.counted_eq]
@[simp] theorem State.counted_pending : (s.counted w d).pending = s.pending := by rw [State.counted_eq]; rfl

/-- At a tick every line takes its sample (R46). -/
theorem State.counted_line (n : Fin 16) : (s.counted w d).lines[n] = s.lines[n].sample (w.getLsbD n.val) := by
  have hlines : (s.counted w d).lines = (s.advanceTime.sampleLines w).lines := by rw [State.counted_eq]
  simp only [hlines, State.sampleLines_lines, Fin.getElem_fin, Vector.getElem_ofFn, State.advanceTime_lines]

/-- At a tick every timer counts (R75). -/
theorem State.counted_timer (n : Fin 4) : (s.counted w d).timers[n] = s.timers[n].counted := by
  have htimers : (s.counted w d).timers = s.advanceTime.countTimers.timers := by rw [State.counted_eq]
  simp only [htimers, State.countTimers_timers, Fin.getElem_fin, Vector.getElem_ofFn, State.advanceTime_timers]

/-- At a tick the stack keeps its contexts' sources, and the contexts below the top (R130). -/
theorem State.counted_stack_frame :
    (s.counted w d).stack.tail = s.stack.tail ∧ (s.counted w d).stack.map Context.source = s.stack.map Context.source := by
  rw [State.counted_stack]
  exact s.advanceTime.countBudget_stack

end

section
variable (s : State) (w : Word)

@[simp] theorem State.tickEffect_timestamp : (s.tickEffect w).timestamp = s.timestamp + 1 := by
  obtain ⟨d, hframe⟩ := s.tickEffect_frame w; rw [hframe.timestamp, State.counted_timestamp]
@[simp] theorem State.tickEffect_clkCount : (s.tickEffect w).clkCount = 0 := by
  obtain ⟨d, hframe⟩ := s.tickEffect_frame w; rw [hframe.clkCount, State.counted_clkCount]
@[simp] theorem State.tickEffect_intervalDivider : (s.tickEffect w).intervalDivider = s.divider := by
  obtain ⟨d, hframe⟩ := s.tickEffect_frame w; rw [hframe.intervalDivider, State.counted_intervalDivider]
@[simp] theorem State.tickEffect_dataOut : (s.tickEffect w).dataOut = s.dataOut := by
  obtain ⟨d, hframe⟩ := s.tickEffect_frame w; rw [hframe.dataOut, State.counted_dataOut]
@[simp] theorem State.tickEffect_settings : (s.tickEffect w).settings = s.settings := by
  obtain ⟨d, hframe⟩ := s.tickEffect_frame w; rw [hframe.settings, State.counted_settings]
@[simp] theorem State.tickEffect_config (i : Fin 24) : ((s.tickEffect w).src i).config = (s.src i).config := by
  obtain ⟨d, hframe⟩ := s.tickEffect_frame w; rw [hframe.config, State.counted_src]

/-- A tick leaves the queue of commands, which is among the settings. -/
@[simp] theorem State.tickEffect_pending : (s.tickEffect w).pending = s.pending :=
  congrArg (·.2.2.2.2.2.2.2.2.2) (s.tickEffect_settings w)

end

/-! ### The command TICK -/

/-- Ticks come while TB_RUN is 1 and RESET_N is not low (R66). -/
theorem State.ticking_of {s : State} (hrun : s.tbRun = true) (hhigh : s.resetLow = false) : s.ticking = true := by
  simp [State.ticking, hrun, hhigh]

/-- TICK while ticks come is the tick (R65). -/
theorem exec_tick {s : State} (h : s.ticking = true) (w : Word) : exec (.tick w) s = .next (s.undriven.tickEffect w) := by
  simp [exec, execTick, h]

/-- Settles O35: the works leave the Timebase, the settings and the stack, and the counting leaves all but the top of the stack. -/
theorem tickAdvancesTimeAndKeepsTheSettings : Obligations.TickAdvancesTimeAndKeepsTheSettings := by
  intro s w hrun hhigh
  obtain ⟨d, hframe⟩ := s.undriven.tickEffect_frame w
  obtain ⟨htail, hsources⟩ := s.undriven.counted_stack_frame w d
  refine ⟨_, exec_tick (State.ticking_of hrun hhigh) w, State.tickEffect_timestamp _ w, fun hmax => ?_, State.tickEffect_clkCount _ w,
    State.tickEffect_intervalDivider _ w, State.tickEffect_dataOut _ w, State.tickEffect_settings _ w,
    State.tickEffect_config _ w, ?_, ?_⟩
  · rw [State.tickEffect_timestamp, State.undriven_timestamp, hmax]
    decide
  · rw [hframe.stack, hsources, State.undriven_stack]
  · rw [hframe.stack, htail, State.undriven_stack]

/-! ### The lines at a tick -/

/-- A sampled line has the sample as raw level, is seeded, and keeps its mode and filter count (R46, R47). -/
theorem Line.sample_frame (l : Line) (b : Bool) :
    (l.sample b).raw = b ∧ (l.sample b).seeded = true ∧ (l.sample b).mode = l.mode ∧ (l.sample b).filter = l.filter := by
  unfold Line.sample
  split
  · exact ⟨rfl, rfl, rfl, rfl⟩
  next hseeded =>
  have hseeded : l.seeded = true := by simpa using hseeded
  split
  · exact ⟨rfl, hseeded, rfl, rfl⟩
  · split <;> exact ⟨rfl, hseeded, rfl, rfl⟩

/-- An unseeded line takes the sample (R47). -/
theorem Line.sample_unseeded {l : Line} (h : l.seeded = false) (b : Bool) : (l.sample b).qual = b ∧ (l.sample b).run = 0 := by
  simp [Line.sample, h]

/-- A sample at the qualified level sets the run count to 0 (R48). -/
theorem Line.sample_same {l : Line} (h : l.seeded = true) {b : Bool} (hb : b = l.qual) :
    (l.sample b).qual = l.qual ∧ (l.sample b).run = 0 := by
  simp [Line.sample, h, hb]

/-- A differing sample short of the filter count raises the run count (R48). -/
theorem Line.sample_differs {l : Line} (h : l.seeded = true) {b : Bool} (hb : b ≠ l.qual) (hr : l.run + 1 < l.filter) :
    (l.sample b).qual = l.qual ∧ (l.sample b).run = l.run + 1 := by
  simp [Line.sample, h, hb, hr]

/-- A differing sample that reaches the filter count qualifies (R48). -/
theorem Line.sample_qualifies {l : Line} (h : l.seeded = true) {b : Bool} (hb : b ≠ l.qual) (hr : l.filter ≤ l.run + 1) :
    (l.sample b).qual = b ∧ (l.sample b).run = 0 := by
  simp [Line.sample, h, hb, Nat.not_lt.mpr hr]

/-- After a tick every line is its sample. -/
theorem State.tickEffect_line (s : State) (w : Word) (n : Fin 16) :
    (s.tickEffect w).lines[n] = s.lines[n].sample (w.getLsbD n.val) := by
  obtain ⟨d, hframe⟩ := s.tickEffect_frame w
  rw [hframe.lines, State.counted_line]

/-- Settles O36: each line is sampled, and the cases of the qualification step are those of `Line.sample`. -/
theorem tickSeedsOrQualifiesEachLine : Obligations.TickSeedsOrQualifiesEachLine := by
  intro s w hrun hhigh
  refine ⟨_, exec_tick (State.ticking_of hrun hhigh) w, fun n => ?_⟩
  rw [State.tickEffect_line, State.undriven_lines]
  obtain ⟨hraw, hseeded, hmode, hfilter⟩ := s.lines[n].sample_frame (w.getLsbD n.val)
  exact ⟨hraw, hseeded, hmode, hfilter, fun h => Line.sample_unseeded h _, fun h => Line.sample_same h,
    fun h => Line.sample_differs h, fun h => Line.sample_qualifies h⟩

/-! ### The budget of the top context at a tick -/

/-- Settles O40: the cases of the Budget Unit's counting, which the works leave. -/
theorem tickCountsTheTopBudget : Obligations.TickCountsTheTopBudget := by
  intro s w hrun hhigh
  obtain ⟨d, hframe⟩ := s.undriven.tickEffect_frame w
  have hstack := hframe.stack
  have hflag := hframe.budgetFlag
  have halert := hframe.alertSource
  rw [State.counted_stack] at hstack
  rw [State.counted_flags] at hflag
  rw [State.counted_alertSource] at halert
  refine ⟨_, exec_tick (State.ticking_of hrun hhigh) w, ?_, ?_⟩
  · intro hs
    have hsame : s.undriven.advanceTime.countBudget = s.undriven.advanceTime := by simp [State.countBudget, hs]
    rw [hstack, hflag, halert, hsame]
    exact ⟨hs, rfl, rfl⟩
  · intro c rest hs
    refine ⟨fun hr => ?_, fun hr h1 => ?_, fun hr h1 => ?_⟩
    · have hsame : s.undriven.advanceTime.countBudget = s.undriven.advanceTime := by simp [State.countBudget, hs, hr]
      rw [hstack, hflag, halert, hsame]
      exact ⟨rfl, rfl, rfl⟩
    · have hdown : s.undriven.advanceTime.countBudget =
          { s.undriven.advanceTime with stack := { c with remaining := c.remaining - 1 } :: rest } := by
        simp only [State.countBudget, State.advanceTime_stack, State.undriven_stack, hs, hr, h1, if_true, if_false]
      rw [hstack, hflag, halert, hdown]
      exact ⟨rfl, rfl, rfl⟩
    · have hexpire : s.undriven.advanceTime.countBudget = { s.undriven.advanceTime.setBudgetFlag with
          stack := c.expire (s.classBudget c.heldClass).action :: rest, alertSource := c.source } := by
        simp only [State.countBudget, State.expireBudget, State.advanceTime_stack, State.undriven_stack, hs, hr, h1, if_true]
        rfl
      rw [hstack, hflag, halert, hexpire]
      exact ⟨rfl, rfl, rfl⟩

/-! ### The CLK periods of an interval -/

/-- While no tick comes a CLK period changes nothing (R66). -/
theorem State.clkPeriod_of_not_ticking {s : State} (h : s.ticking = false) : s.clkPeriod = s.undriven := by
  simp [State.clkPeriod, h]

/-- A CLK period inside the interval is counted (R65). -/
theorem State.clkPeriod_inside {s : State} (h : s.ticking = true) (hlt : s.clkCount + 1 < tickPeriod s.intervalDivider) :
    s.clkPeriod = { s.undriven with clkCount := s.clkCount + 1 } := by
  simp [State.clkPeriod, h, hlt]

/-- The CLK period that ends the interval is a tick (R65). -/
theorem State.clkPeriod_last {s : State} (h : s.ticking = true) (hge : ¬ s.clkCount + 1 < tickPeriod s.intervalDivider) :
    s.clkPeriod = { s.undriven with draws := s.draws + 1 }.tickEffect (Config.lineLevels s.draws) := by
  simp only [State.clkPeriod, h, hge, if_true, if_false]

/-- An idle step is one CLK period (log 2). -/
theorem step_idle {s : State} (h : s.pending = []) : step s = .next s.clkPeriod := by
  simp only [step, h]

/-- Settles O2: the three branches of a CLK period. -/
theorem idleStepIsOneClkPeriod : Obligations.IdleStepIsOneClkPeriod := by
  intro s hq
  rw [step_idle hq]
  refine ⟨fun hoff => ?_, fun hrun hhigh hlt => ?_, fun hrun hhigh hge => ⟨⟨Config.lineLevels s.draws, ?_⟩, _, rfl, ?_⟩⟩
  · have hticking : s.ticking = false := by rcases hoff with h | h <;> simp [State.ticking, h]
    rw [State.clkPeriod_of_not_ticking hticking]
    rfl
  · rw [State.clkPeriod_inside (State.ticking_of hrun hhigh) hlt]
    rfl
  · rw [State.clkPeriod_last (State.ticking_of hrun hhigh) hge]
    exact (exec_tick (s := { s with draws := s.draws + 1 }) (State.ticking_of hrun hhigh) _).symm
  · rw [State.clkPeriod_last (State.ticking_of hrun hhigh) hge]
    exact ⟨State.tickEffect_timestamp _ _, State.tickEffect_clkCount _ _, State.tickEffect_intervalDivider _ _,
      State.tickEffect_dataOut _ _⟩

/-- Running one step more is running the step that follows. -/
theorem run_succ {k : Nat} {s t : State} (h : step s = .next t) : core.run (k + 1) s = core.run k t := by
  have hstep : core.step s = .next t := h
  simp only [Host.Core.run, hstep]

/-- `k` idle steps inside an interval raise the CLK count by `k` (R65). -/
theorem run_inside (k : Nat) (s : State) (hq : s.pending = []) (h : s.ticking = true) (hk : 0 < k)
    (hlt : s.clkCount + k < tickPeriod s.intervalDivider) :
    core.run k s = .next { s with dataOut := none, clkCount := s.clkCount + k } := by
  induction k generalizing s with
  | zero => exact absurd hk (by omega)
  | succ k ih =>
    have hstep : step s = .next { s with dataOut := none, clkCount := s.clkCount + 1 } := by
      rw [step_idle hq, State.clkPeriod_inside h (by omega)]
      rfl
    rw [run_succ hstep]
    cases k with
    | zero => rfl
    | succ k =>
      have hrec := ih { s with dataOut := none, clkCount := s.clkCount + 1 } hq h (by omega) (by
        change s.clkCount + 1 + (k + 1) < tickPeriod s.intervalDivider
        omega)
      rw [hrec]
      have hsum : s.clkCount + 1 + (k + 1) = s.clkCount + (k + 1 + 1) := by omega
      simp only [hsum]

/-- A tick does not depend on how many CLK periods its interval counted (log 3). -/
theorem State.tickEffect_withClkCount (s : State) (c : Nat) (w : Word) : { s with clkCount := c }.tickEffect w = s.tickEffect w := by
  unfold State.tickEffect
  rfl

/-- The idle steps up to the end of an interval make its tick (R65; log 2). -/
theorem run_to_tick (k : Nat) (s : State) (hq : s.pending = []) (h : s.ticking = true)
    (hk : s.clkCount + (k + 1) = tickPeriod s.intervalDivider) :
    core.run (k + 1) s = .next ({ s.undriven with draws := s.draws + 1 }.tickEffect (Config.lineLevels s.draws)) := by
  induction k generalizing s with
  | zero =>
    rw [run_succ (step_idle hq), State.clkPeriod_last h (by omega)]
    rfl
  | succ k ih =>
    have hstep : step s = .next { s.undriven with clkCount := s.clkCount + 1 } := by
      rw [step_idle hq, State.clkPeriod_inside h (by omega)]
    have hk' : s.clkCount + 1 + (k + 1) = tickPeriod s.intervalDivider := by omega
    refine (run_succ hstep).trans ((ih { s.undriven with clkCount := s.clkCount + 1 } hq h hk').trans ?_)
    exact congrArg Host.Outcome.next (State.tickEffect_withClkCount { s.undriven with draws := s.draws + 1 } (s.clkCount + 1) _)

/-- Settles O3: the idle steps inside the interval count CLK periods, and the one that ends it is a tick. -/
theorem idleStepsToTheEndOfAnIntervalMakeOneTick : Obligations.IdleStepsToTheEndOfAnIntervalMakeOneTick := by
  intro s hq hrun hhigh period hlt
  have hticking := State.ticking_of hrun hhigh
  have hperiod : period = tickPeriod s.intervalDivider := rfl
  constructor
  · intro k hk hshort
    exact run_inside k s hq hticking hk (by omega)
  · obtain ⟨k, hk⟩ : ∃ k, period - s.clkCount = k + 1 := ⟨period - s.clkCount - 1, by omega⟩
    have hrun := run_to_tick k s hq hticking (by omega)
    refine ⟨Config.lineLevels s.draws, _, hk ▸ hrun, exec_tick (s := { s with draws := s.draws + 1 }) hticking _,
      State.tickEffect_timestamp _ _, fun n => ?_, State.tickEffect_clkCount _ _, State.tickEffect_intervalDivider _ _,
      (State.tickEffect_pending _ _).trans hq⟩
    rw [State.tickEffect_line]
    exact ⟨(Line.sample_frame _ _).2.1, (Line.sample_frame _ _).1⟩

end Sys2Proof.Machine
end

section
/-! Admission as one update (01, section 4): what it does to the record of its source, to the pool and to the flags, as a function of that record and
of whether a slot is free; the crossing of LOW_MARK over any number of admissions; and the statements about R11, R5 and R80. -/

namespace Sys2Proof.Machine

/-! ### What an admission does to a record -/

/-- The outcome of an admission: the record it leaves, and whether it takes a slot, loses an event, and meets the empty pool. -/
structure Intake where
  record : Source
  takes : Bool
  misses : Bool
  meetsEmpty : Bool

/-- The record with one more event lost (R16). -/
def Source.lost (q : Source) : Source := { q with missed := min 255 (q.missed + 1) }

/-- The outcome of an admission to the record `q`, `slot` saying whether a slot is free (R10 to R15). -/
def Source.intake (q : Source) (r : Record) (slot : Bool) : Intake :=
  if q.admitOn = false then ⟨q, false, false, false⟩
  else if isInterval r.source then
    match q.queue with
    | h :: t =>
      if h.datum = 255 then ⟨q.lost, false, true, false⟩
      else ⟨{ q with queue := { h with datum := h.datum + 1 } :: t }, false, false, false⟩
    | [] => if slot then ⟨{ q with queue := [r] }, true, false, false⟩ else ⟨q.lost, false, true, true⟩
  else if q.quota ≤ q.queue.length then
    if q.policy = .keepNewest then ⟨{ q.lost with queue := q.queue.tail ++ [r] }, false, true, false⟩ else ⟨q.lost, false, true, false⟩
  else if slot then ⟨{ q with queue := q.queue ++ [r] }, true, false, false⟩
  else if q.policy = .keepNewest ∧ q.queue ≠ [] then ⟨{ q.lost with queue := q.queue.tail ++ [r] }, false, true, true⟩
  else ⟨q.lost, false, true, true⟩

/-- The state that an outcome for source `i` leaves. -/
def State.absorb (s : State) (i : Fin 24) (k : Intake) : State :=
  { s.setSrc i k.record with
    freeCount := s.freeCount - k.takes.toNat
    flags := { s.flags with
      poolLow := s.flags.poolLow || (k.takes && decide (s.freeCount = s.lowMark))
      poolEmpty := s.flags.poolEmpty || k.meetsEmpty
      missed := s.flags.missed || k.misses } }

/-! ### The outcome, branch by branch -/

section
variable {q : Source} {r h : Record} {t : List Record} {slot : Bool}

/-- With ADMIT off nothing happens (R10). -/
theorem Source.intake_off (ha : q.admitOn = false) : q.intake r slot = ⟨q, false, false, false⟩ := by
  simp [Source.intake, ha]

/-- An expiry is merged into a queued record of datum below 255 (R11). -/
theorem Source.intake_merged (ha : q.admitOn = true) (hi : isInterval r.source = true) (hq : q.queue = h :: t) (hd : h.datum ≠ 255) :
    q.intake r slot = ⟨{ q with queue := { h with datum := h.datum + 1 } :: t }, false, false, false⟩ := by
  simp only [Source.intake, ha, hi, hq, hd, if_true, if_false, Bool.true_eq_false]

/-- An expiry is lost on a queued record of datum 255 (R11). -/
theorem Source.intake_saturated (ha : q.admitOn = true) (hi : isInterval r.source = true) (hq : q.queue = h :: t) (hd : h.datum = 255) :
    q.intake r slot = ⟨q.lost, false, true, false⟩ := by
  simp only [Source.intake, ha, hi, hq, hd, if_true, if_false, Bool.true_eq_false]

/-- An expiry of an empty queue takes a free slot (R11). -/
theorem Source.intake_interval_append (ha : q.admitOn = true) (hi : isInterval r.source = true) (hq : q.queue = []) :
    q.intake r true = ⟨{ q with queue := [r] }, true, false, false⟩ := by
  simp only [Source.intake, ha, hi, hq, if_true, if_false, Bool.true_eq_false]

/-- An expiry of an empty queue is lost without a free slot (R11). -/
theorem Source.intake_interval_lost (ha : q.admitOn = true) (hi : isInterval r.source = true) (hq : q.queue = []) :
    q.intake r false = ⟨q.lost, false, true, true⟩ := by
  simp only [Source.intake, ha, hi, hq, if_true, if_false, Bool.true_eq_false, Bool.false_eq_true]

/-- A full KEEP_NEWEST queue is displaced (R13). -/
theorem Source.intake_full_displaced (ha : q.admitOn = true) (hi : isInterval r.source = false) (hf : q.quota ≤ q.queue.length)
    (hp : q.policy = .keepNewest) : q.intake r slot = ⟨{ q.lost with queue := q.queue.tail ++ [r] }, false, true, false⟩ := by
  simp only [Source.intake, ha, hi, hf, hp, if_true, if_false, Bool.true_eq_false, Bool.false_eq_true]

/-- A full queue of another policy loses the arrival (R12). -/
theorem Source.intake_full_lost (ha : q.admitOn = true) (hi : isInterval r.source = false) (hf : q.quota ≤ q.queue.length)
    (hp : q.policy ≠ .keepNewest) : q.intake r slot = ⟨q.lost, false, true, false⟩ := by
  simp only [Source.intake, ha, hi, hf, hp, if_true, if_false, Bool.true_eq_false, Bool.false_eq_true]

/-- A queue with room takes a free slot (R14). -/
theorem Source.intake_append (ha : q.admitOn = true) (hi : isInterval r.source = false) (hr : q.queue.length < q.quota) :
    q.intake r true = ⟨{ q with queue := q.queue ++ [r] }, true, false, false⟩ := by
  simp only [Source.intake, ha, hi, hr.not_ge, if_true, if_false, Bool.true_eq_false, Bool.false_eq_true]

/-- At the empty pool a KEEP_NEWEST queue with room and a head is displaced (R15). -/
theorem Source.intake_empty_pool_displaced (ha : q.admitOn = true) (hi : isInterval r.source = false) (hr : q.queue.length < q.quota)
    (hp : q.policy = .keepNewest ∧ q.queue ≠ []) :
    q.intake r false = ⟨{ q.lost with queue := q.queue.tail ++ [r] }, false, true, true⟩ := by
  simp only [Source.intake, ha, hi, hr.not_ge, hp, if_true, if_false, Bool.true_eq_false, Bool.false_eq_true, ne_eq, not_false_eq_true, and_self]

/-- At the empty pool any other queue with room loses the arrival (R15). -/
theorem Source.intake_empty_pool_lost (ha : q.admitOn = true) (hi : isInterval r.source = false) (hr : q.queue.length < q.quota)
    (hp : ¬ (q.policy = .keepNewest ∧ q.queue ≠ [])) : q.intake r false = ⟨q.lost, false, true, true⟩ := by
  simp only [Source.intake, ha, hi, hr.not_ge, hp, if_false, Bool.true_eq_false, Bool.false_eq_true]

end

/-! ### Admission takes the outcome in -/

/-- With ADMIT off an admission does nothing (R10). -/
theorem State.admitArrival_off {s : State} {r : Record} (ha : (s.src r.source).admitOn = false) : s.admitArrival r = (.disabled, s) := by
  simp [State.admitArrival, ha]

/-- With ADMIT on an expiry goes to COALESCE (R10, R11). -/
theorem State.admitArrival_eq_coalesce {s : State} {r : Record} (hi : isInterval r.source = true) (ha : (s.src r.source).admitOn = true) :
    s.admitArrival r = (.ok, s.coalesce r) := by
  simp [State.admitArrival, hi, ha]

/-- Absorbing an outcome that changes nothing changes nothing. -/
theorem State.absorb_kept (s : State) (i : Fin 24) : s.absorb i ⟨s.src i, false, false, false⟩ = s := by
  simp [State.absorb]

/-- Absorbing a merge writes the queue alone (R11). -/
theorem State.absorb_queue (s : State) (i : Fin 24) (l : List Record) :
    s.absorb i ⟨{ s.src i with queue := l }, false, false, false⟩ = s.setSrc i { s.src i with queue := l } := by
  simp [State.absorb, State.setSrc]

/-- Absorbing a loss (R16). -/
theorem State.absorb_lost (s : State) (i : Fin 24) : s.absorb i ⟨(s.src i).lost, false, true, false⟩ = s.lose i := by
  simp [State.absorb, State.lose_eq, Source.lost]

/-- Absorbing a loss at the empty pool (R15). -/
theorem State.absorb_lost_empty_pool (s : State) (i : Fin 24) : s.absorb i ⟨(s.src i).lost, false, true, true⟩ = s.setPoolEmpty.lose i := by
  simp [State.absorb, State.setPoolEmpty_lose_eq, Source.lost]

/-- Absorbing a displacement (R13). -/
theorem State.absorb_displaced (s : State) (r : Record) :
    s.absorb r.source ⟨{ (s.src r.source).lost with queue := (s.src r.source).queue.tail ++ [r] }, false, true, false⟩ = s.displace r := by
  simp [State.absorb, State.displace, State.lose_eq, Source.lost]

/-- Absorbing a displacement at the empty pool (R15). -/
theorem State.absorb_displaced_empty_pool (s : State) (r : Record) :
    s.absorb r.source ⟨{ (s.src r.source).lost with queue := (s.src r.source).queue.tail ++ [r] }, false, true, true⟩ =
      s.setPoolEmpty.displace r := by
  rw [← State.absorb_displaced s.setPoolEmpty r]
  simp [State.absorb]

/-- Absorbing an append (R14). -/
theorem State.absorb_appended (s : State) (r : Record) :
    s.absorb r.source ⟨{ s.src r.source with queue := (s.src r.source).queue ++ [r] }, true, false, false⟩ = s.allocate.append r := by
  simp [State.absorb, State.allocate_append_eq]

/-- COALESCE absorbs the outcome of its record (R11). -/
theorem State.coalesce_eq_absorb {s : State} {r : Record} (hi : isInterval r.source = true) (ha : (s.src r.source).admitOn = true) :
    s.coalesce r = s.absorb r.source ((s.src r.source).intake r (decide (s.freeCount ≠ 0))) := by
  unfold State.coalesce
  split
  · next h t hq =>
    split
    · next hd => rw [Source.intake_saturated ha hi hq hd, State.absorb_lost]
    · next hd =>
      rw [Source.intake_merged ha hi hq hd, State.absorb_queue]
  · next hq =>
    split
    · next hf => rw [decide_eq_false (not_not.mpr hf), Source.intake_interval_lost ha hi hq, State.absorb_lost_empty_pool]
    · next hf =>
      have happ := State.absorb_appended s r
      rw [hq, List.nil_append] at happ
      rw [decide_eq_true hf, Source.intake_interval_append ha hi hq, happ]

/-- Admission to a line or posted source absorbs the outcome of its record (R12 to R15). -/
theorem State.enqueue_eq_absorb {s : State} {r : Record} (hi : isInterval r.source = false) (ha : (s.src r.source).admitOn = true) :
    (s.enqueue r).2 = s.absorb r.source ((s.src r.source).intake r (decide (s.freeCount ≠ 0))) := by
  rcases Nat.lt_or_ge (s.src r.source).queue.length (s.src r.source).quota with hroom | hfull
  · by_cases hf : s.freeCount = 0
    · rw [decide_eq_false (not_not.mpr hf)]
      by_cases hp : (s.src r.source).policy = .keepNewest ∧ (s.src r.source).queue ≠ []
      · rw [State.enqueue_empty_pool_displace hroom hf hp.1 hp.2, Source.intake_empty_pool_displaced ha hi hroom hp,
          State.absorb_displaced_empty_pool]
      · rw [State.enqueue_empty_pool_lose hroom hf hp, Source.intake_empty_pool_lost ha hi hroom hp, State.absorb_lost_empty_pool]
    · rw [decide_eq_true hf, State.enqueue_room_append hroom hf, Source.intake_append ha hi hroom, State.absorb_appended]
  · by_cases hp : (s.src r.source).policy = .keepNewest
    · rw [State.enqueue_full_displace hfull hp, Source.intake_full_displaced ha hi hfull hp, State.absorb_displaced]
    · rw [State.enqueue_full_lose hfull hp, Source.intake_full_lost ha hi hfull hp, State.absorb_lost]

/-- Every admission absorbs the outcome of its source's record (R10 to R15). -/
theorem State.admitArrival_eq_absorb (s : State) (r : Record) :
    (s.admitArrival r).2 = s.absorb r.source ((s.src r.source).intake r (decide (s.freeCount ≠ 0))) := by
  cases ha : (s.src r.source).admitOn with
  | false => rw [State.admitArrival_off ha, Source.intake_off ha, State.absorb_kept]
  | true =>
    cases hi : isInterval r.source with
    | true => rw [State.admitArrival_eq_coalesce hi ha, State.coalesce_eq_absorb hi ha]
    | false => rw [State.admitArrival_eq_enqueue hi ha, State.enqueue_eq_absorb hi ha]

/-- Absorbing reaches its own record alone. -/
theorem State.absorb_src (s : State) (i j : Fin 24) (k : Intake) : (s.absorb i k).src j = if j = i then k.record else s.src j :=
  State.src_setSrc s i j k.record

@[simp] theorem State.absorb_freeCount (s : State) (i : Fin 24) (k : Intake) : (s.absorb i k).freeCount = s.freeCount - k.takes.toNat := rfl
@[simp] theorem State.absorb_lowMark (s : State) (i : Fin 24) (k : Intake) : (s.absorb i k).lowMark = s.lowMark := rfl

/-! ### The statements on one admission -/

/-- Settles O13: the four branches of COALESCE. -/
theorem intervalExpiryCoalesces : Obligations.IntervalExpiryCoalesces := by
  intro s r hi ha
  simp only [State.admitArrival_eq_coalesce hi ha]
  refine ⟨fun h hq hd => ?_, fun h hq hd => ?_, fun hq hf => ?_, fun hq hf => ?_⟩
  · simp only [State.coalesce, hq, hd, if_false]
  · simp only [State.coalesce, hq, hd, if_true, State.lose_eq]
  · have hne : s.freeCount ≠ 0 := by omega
    simp only [State.coalesce, hq, hne, if_false, State.allocate_append_eq, List.nil_append]
  · simp only [State.coalesce, hq, hf, if_true, State.setPoolEmpty_lose_eq]

/-- The two crossings of LOW_MARK by two arrivals are the same in either order. -/
theorem crossing_comm (p a b : Bool) (f m : Nat) :
    ((p || (a && decide (f = m))) || (b && decide (f - a.toNat = m))) = ((p || (b && decide (f = m))) || (a && decide (f - b.toNat = m))) := by
  cases a <;> cases b <;> simp

/-- Outcomes for different sources can be absorbed in either order. -/
theorem State.absorb_comm (s : State) {i j : Fin 24} (h : i ≠ j) (k l : Intake) :
    (s.absorb i k).absorb j l = (s.absorb j l).absorb i k := by
  have hsources : (s.sources.set i k.record).set j l.record = (s.sources.set j l.record).set i k.record :=
    Vector.set_comm _ _ fun hv => h (Fin.ext hv)
  have hfree : s.freeCount - k.takes.toNat - l.takes.toNat = s.freeCount - l.takes.toNat - k.takes.toNat := by omega
  have hlow := crossing_comm s.flags.poolLow k.takes l.takes s.freeCount s.lowMark
  unfold State.absorb State.setSrc
  simp only [hsources, hfree, hlow, Bool.or_assoc, Bool.or_comm l.meetsEmpty, Bool.or_comm l.misses]

/-- Settles O14: with two slots free the outcome of each admission is that of its own record, and such outcomes commute. -/
theorem admissionsWithRoomCommute : Obligations.AdmissionsWithRoomCommute := by
  intro s r q hne hfree
  have hafter : ∀ (i : Fin 24) (k : Intake), decide ((s.absorb i k).freeCount ≠ 0) = decide (s.freeCount ≠ 0) := by
    intro i k
    have htakes := k.takes.toNat_le
    rw [State.absorb_freeCount]
    exact decide_eq_decide.mpr (by omega)
  simp only [State.admitArrival_eq_absorb, hafter, State.absorb_src, if_neg hne, if_neg hne.symm]
  exact s.absorb_comm hne _ _

/-- POST_SRC names a posted source exactly by its number (R79). -/
theorem postedSource_eq_some {b : Byte} {i : Fin 24} (hlow : 16 ≤ i.val) (hhigh : i.val < 20) (hb : b.toNat = i.val) :
    postedSource b = some i := by
  have hp : isPosted i = true := by simp [isPosted, hlow, hhigh]
  exact Option.filter_eq_some_iff.mpr ⟨sourceOf_eq_some.mpr hb, hp⟩

/-- POST_SRC at another number names no posted source (R79). -/
theorem postedSource_eq_none {b : Byte} (h : b.toNat < 16 ∨ 20 ≤ b.toNat) : postedSource b = none := by
  cases hp : postedSource b with
  | none => rfl
  | some i =>
    obtain ⟨hi, hposted⟩ := Option.filter_eq_some_iff.mp hp
    rw [sourceOf_eq_some] at hi
    simp only [isPosted, Bool.and_eq_true, decide_eq_true_iff] at hposted
    omega

/-- POST with RESET_N not low is its effect (R80). -/
theorem exec_post {s : State} (h : s.resetLow = false) (b : Byte) : exec (.post b) s = .next (s.undriven.post b) :=
  congrArg Host.Outcome.next (unlessReset_high h _)

/-- Settles O15: POST is one admission, whose answer goes to CMD_STATUS. -/
theorem postMakesOneArrivalAndLeavesItsAnswer : Obligations.PostMakesOneArrivalAndLeavesItsAnswer := by
  intro s b hhigh
  constructor
  · intro i hlo hhi hb r s0
    rw [exec_post hhigh]
    have hi : isInterval i = false := by simp [isInterval]; omega
    have hpost : s.undriven.post b = (s0.admitArrival r).2.answer (s0.admitArrival r).1 := by
      have hsel : postedSource s.undriven.postSrc = some i := postedSource_eq_some hlo hhi hb
      simp only [State.post, hsel]
      rfl
    rw [hpost]
    refine ⟨rfl, fun hoff => ?_, fun hon hroom hslot => ⟨_, rfl, ?_⟩⟩
    · rw [State.admitArrival_off (s := s0) (r := r) hoff]
      rfl
    · have hne : s0.freeCount ≠ 0 := by change s.freeCount ≠ 0; omega
      rw [State.admitArrival_eq_enqueue (s := s0) (r := r) hi hon, State.enqueue_room_append (s := s0) (r := r) hroom hne,
        State.allocate_append_eq]
      exact ⟨congrArg Source.queue (State.src_setSrc_self s0 i _), rfl, rfl⟩
  · intro hout
    rw [exec_post hhigh]
    have hsel : postedSource s.undriven.postSrc = none := postedSource_eq_none hout
    simp only [State.post, hsel]
    rfl

end Sys2Proof.Machine
end

section
/-! The works of a tick (01, 03, 04, 05): the pool through them, one source's arrival among them, the credits of an aging expiry among them, and the
statements about R11, R51, R52, R75, R88 and R89 at a tick. -/

namespace Sys2Proof.Machine

/-! ### The pool through admissions -/

/-- What admissions do to the pool: the free count does not rise, and POOL_LOW is set exactly by the crossing of LOW_MARK (R5, R6). -/
structure PoolFrame (s t : State) : Prop where
  freeCount : t.freeCount ≤ s.freeCount
  lowMark : t.lowMark = s.lowMark
  poolLow : t.flags.poolLow = true ↔ s.flags.poolLow = true ∨ (t.freeCount < s.lowMark ∧ s.lowMark ≤ s.freeCount)

/-- A pool left as it was. -/
theorem PoolFrame.of_eq {s t : State} (hf : t.freeCount = s.freeCount) (hm : t.lowMark = s.lowMark) (hp : t.flags.poolLow = s.flags.poolLow) :
    PoolFrame s t where
  freeCount := hf.le
  lowMark := hm
  poolLow := by
    rw [hp, hf]
    exact ⟨Or.inl, fun h => h.resolve_right (by omega)⟩

/-- One run of admissions after another: LOW_MARK is crossed by exactly one of them. -/
theorem PoolFrame.trans {s t u : State} (h : PoolFrame s t) (k : PoolFrame t u) : PoolFrame s u where
  freeCount := k.freeCount.trans h.freeCount
  lowMark := k.lowMark.trans h.lowMark
  poolLow := by
    have := h.freeCount
    have := k.freeCount
    rw [k.poolLow, h.poolLow, h.lowMark, or_assoc]
    exact or_congr_right (by omega)

/-- The arrival needs a slot of the pool: the record takes one whenever one is free (R7). -/
def Source.needsSlot (q : Source) (r : Record) : Bool :=
  q.admitOn && if isInterval r.source then q.queue.isEmpty else decide (q.queue.length < q.quota)

/-- Whether an arrival needs a slot is a matter of its source's record. -/
theorem State.needsSlot_eq (s : State) (r : Record) : s.needsSlot r = (s.src r.source).needsSlot r := rfl

/-- An outcome takes a slot exactly when the arrival needs one and one is free. -/
theorem Source.intake_takes (q : Source) (r : Record) (slot : Bool) : (q.intake r slot).takes = (q.needsSlot r && slot) := by
  unfold Source.needsSlot
  cases ha : q.admitOn with
  | false => rw [Source.intake_off ha]; rfl
  | true =>
    cases hi : isInterval r.source with
    | true =>
      cases hq : q.queue with
      | nil =>
        cases slot
        · rw [Source.intake_interval_lost ha hi hq]; rfl
        · rw [Source.intake_interval_append ha hi hq]; rfl
      | cons h t =>
        by_cases hd : h.datum = 255
        · rw [Source.intake_saturated ha hi hq hd]; rfl
        · rw [Source.intake_merged ha hi hq hd]; rfl
    | false =>
      rcases Nat.lt_or_ge q.queue.length q.quota with hroom | hfull
      · rw [decide_eq_true hroom]
        cases slot
        · by_cases hp : q.policy = .keepNewest ∧ q.queue ≠ []
          · rw [Source.intake_empty_pool_displaced ha hi hroom hp]; rfl
          · rw [Source.intake_empty_pool_lost ha hi hroom hp]; rfl
        · rw [Source.intake_append ha hi hroom]; rfl
      · rw [decide_eq_false (Nat.not_lt.mpr hfull)]
        by_cases hp : q.policy = .keepNewest
        · rw [Source.intake_full_displaced ha hi hfull hp]; rfl
        · rw [Source.intake_full_lost ha hi hfull hp]; rfl

/-- An outcome absorbed takes a slot only from a pool that has one. -/
theorem State.absorb_poolFrame {s : State} {i : Fin 24} {k : Intake} (h : k.takes = true → s.freeCount ≠ 0) : PoolFrame s (s.absorb i k) := by
  cases ht : k.takes with
  | false => exact PoolFrame.of_eq (by simp [ht]) rfl (by simp [State.absorb, ht])
  | true =>
    have hne := h ht
    constructor
    · rw [State.absorb_freeCount]
      omega
    · rfl
    · simp only [State.absorb, ht, Bool.toNat_true, Bool.true_and, Bool.or_eq_true, decide_eq_true_iff]
      exact or_congr_right (by omega)

/-- Every admission is within the pool's frame. -/
theorem State.admitArrival_poolFrame (s : State) (r : Record) : PoolFrame s (s.admitArrival r).2 := by
  rw [State.admitArrival_eq_absorb]
  refine State.absorb_poolFrame fun h => ?_
  rw [Source.intake_takes, Bool.and_eq_true] at h
  exact of_decide_eq_true h.2

/-- Every work of a tick is within the pool's frame. -/
theorem State.doWork_poolFrame (s : State) (k : TickWork) : PoolFrame s (s.doWork k) := by
  cases k with
  | arrive r => exact s.admitArrival_poolFrame r
  | age =>
    have hcredits : PoolFrame s s.grantCredits :=
      PoolFrame.of_eq (by unfold State.grantCredits; rfl) (by unfold State.grantCredits; rfl) (by unfold State.grantCredits; rfl)
    exact hcredits

/-- The works of a tick are within the pool's frame. -/
theorem State.foldl_doWork_poolFrame (l : List TickWork) (s : State) : PoolFrame s (l.foldl State.doWork s) := by
  induction l generalizing s with
  | nil => exact PoolFrame.of_eq rfl rfl rfl
  | cons k l ih => exact (s.doWork_poolFrame k).trans (ih (s.doWork k))

/-! ### The slots that the works need -/

/-- The work needs a slot of the pool. -/
def State.workNeeds (s : State) : TickWork → Bool
  | .arrive r => s.needsSlot r
  | .age => false

/-- One work takes at most the slot it needs. -/
theorem State.doWork_freeCount (s : State) (k : TickWork) : s.freeCount ≤ (s.doWork k).freeCount + (s.workNeeds k).toNat := by
  cases k with
  | arrive r =>
    have hle : ((s.src r.source).intake r (decide (s.freeCount ≠ 0))).takes.toNat ≤ (s.needsSlot r).toNat := by
      rw [Source.intake_takes, ← State.needsSlot_eq]
      cases s.needsSlot r <;> simp [Bool.toNat_le]
    change s.freeCount ≤ (s.admitArrival r).2.freeCount + (s.needsSlot r).toNat
    rw [State.admitArrival_eq_absorb, State.absorb_freeCount]
    omega
  | age =>
    have hsame : (s.doWork .age).freeCount = s.freeCount := by unfold State.doWork State.grantCredits; rfl
    omega

/-- A work of another source keeps the queue and the missed count of source `i`; its configuration every work keeps. -/
theorem State.doWork_other {s : State} {k : TickWork} {i : Fin 24} (h : k.index ≠ i.val) :
    ((s.doWork k).src i).queue = (s.src i).queue ∧ ((s.doWork k).src i).missed = (s.src i).missed := by
  cases k with
  | arrive r =>
    have hne : i ≠ r.source := fun he => h (congrArg Fin.val he.symm)
    have hsrc : (s.doWork (.arrive r)).src i = s.src i := (s.admit_frame r).others i hne
    rw [hsrc]
    exact ⟨rfl, rfl⟩
  | age =>
    change (s.grantCredits.src i).queue = _ ∧ (s.grantCredits.src i).missed = _
    rw [State.grantCredits_src]
    split <;> exact ⟨rfl, rfl⟩

/-- Whether an arrival needs a slot is kept by a work of another source. -/
theorem State.workNeeds_doWork {s : State} {k j : TickWork} (h : k.index ≠ j.index) : (s.doWork k).workNeeds j = s.workNeeds j := by
  cases j with
  | age => rfl
  | arrive r =>
    obtain ⟨hqueue, -⟩ := State.doWork_other (s := s) (i := r.source) h
    have hconfig := (s.doWork_frame k).config r.source
    have hadmit : ((s.doWork k).src r.source).admitOn = (s.src r.source).admitOn := congrArg (·.1) hconfig
    have hquota : ((s.doWork k).src r.source).quota = (s.src r.source).quota := congrArg (·.2.2.2.2.2) hconfig
    simp only [State.workNeeds, State.needsSlot_eq, Source.needsSlot, hqueue, hadmit, hquota]

/-- Works of different sources take at most the slots that they need at the start. -/
theorem State.foldl_doWork_freeCount (l : List TickWork) (s : State) (hl : l.Pairwise fun a b => a.index ≠ b.index) :
    s.freeCount ≤ (l.foldl State.doWork s).freeCount + (l.filter s.workNeeds).length := by
  induction l generalizing s with
  | nil => simp
  | cons k l ih =>
    obtain ⟨hk, hl⟩ := List.pairwise_cons.mp hl
    have hrest : l.filter (s.doWork k).workNeeds = l.filter s.workNeeds :=
      List.filter_congr fun j hj => State.workNeeds_doWork (hk j hj)
    have hone := s.doWork_freeCount k
    have hmany := ih (s.doWork k) hl
    rw [hrest] at hmany
    rw [List.foldl_cons, List.filter_cons]
    cases hneeds : s.workNeeds k with
    | false =>
      simp only [hneeds, Bool.toNat_false] at hone
      simp only [Bool.false_eq_true, if_false]
      omega
    | true =>
      simp only [hneeds, Bool.toNat_true] at hone
      simp only [if_true, List.length_cons]
      omega

/-! ### One source's arrival among the works -/

/-- Works without an arrival of source `i` keep its queue and its missed count. -/
theorem State.foldl_doWork_other {l : List TickWork} {i : Fin 24} (s : State) (h : ∀ k ∈ l, k.index ≠ i.val) :
    ((l.foldl State.doWork s).src i).queue = (s.src i).queue ∧ ((l.foldl State.doWork s).src i).missed = (s.src i).missed := by
  induction l generalizing s with
  | nil => exact ⟨rfl, rfl⟩
  | cons k l ih =>
    obtain ⟨hqueue, hmissed⟩ := State.doWork_other (s := s) (h k List.mem_cons_self)
    obtain ⟨hqueue', hmissed'⟩ := ih (s.doWork k) fun j hj => h j (List.mem_cons_of_mem _ hj)
    exact ⟨hqueue'.trans hqueue, hmissed'.trans hmissed⟩

/-- Two records that agree in all but the credits. -/
theorem Source.eq_withCredits {p q : Source} (hconfig : p.config = q.config) (hqueue : p.queue = q.queue) (hmissed : p.missed = q.missed) :
    p = { q with credits := p.credits } := by
  cases p
  cases q
  simp only [Source.config, Prod.mk.injEq] at hconfig
  simp_all

/-- The credits pass through an admission. -/
theorem Source.intake_withCredits (q : Source) (c : Nat) (r : Record) (slot : Bool) :
    { q with credits := c }.intake r slot = { q.intake r slot with record := { (q.intake r slot).record with credits := c } } := by
  unfold Source.intake Source.lost
  dsimp only
  split
  · rfl
  split
  · split
    · split <;> rfl
    · split <;> rfl
  · split
    · split <;> rfl
    · split
      · rfl
      · split <;> rfl

/-- The arrival `r` was taken by its source between the states `s` and `t`, `slot` saying whether it found a slot free. -/
structure Arrived (s t : State) (r : Record) (slot : Bool) : Prop where
  queue : (t.src r.source).queue = ((s.src r.source).intake r slot).record.queue
  missed : (t.src r.source).missed = ((s.src r.source).intake r slot).record.missed
  missedFlag : ((s.src r.source).intake r slot).misses = true → t.flags.missed = true
  emptyFlag : ((s.src r.source).intake r slot).meetsEmpty = true → t.flags.poolEmpty = true
  noSlot : slot = false → t.freeCount = 0

/-- Among works of different sources, an arrival is taken as its source's record stood before them; it finds a slot when as many are free as the
works need, and none when none is free (R5). -/
theorem State.foldl_doWork_arrived {l : List TickWork} {s : State} {r : Record} (hl : l.Pairwise fun a b => a.index ≠ b.index)
    (hr : .arrive r ∈ l) : ∃ slot, Arrived s (l.foldl State.doWork s) r slot ∧
      (s.needsSlot r = true → (l.filter s.workNeeds).length ≤ s.freeCount → slot = true) ∧ (s.freeCount = 0 → slot = false) := by
  obtain ⟨l₁, l₂, rfl⟩ := List.append_of_mem hr
  obtain ⟨hl₁, hcons, hcross⟩ := List.pairwise_append.mp hl
  obtain ⟨hafter, -⟩ := List.pairwise_cons.mp hcons
  have hbefore : ∀ k ∈ l₁, k.index ≠ r.source.val := fun k hk => hcross k hk _ List.mem_cons_self
  rw [List.foldl_append, List.foldl_cons]
  generalize hu : l₁.foldl State.doWork s = u
  have husrc : u.src r.source = { s.src r.source with credits := (u.src r.source).credits } := by
    obtain ⟨hqueue, hmissed⟩ := State.foldl_doWork_other s hbefore
    have hconfig := (State.foldl_doWork_frame l₁ s).config r.source
    rw [hu] at hqueue hmissed hconfig
    exact Source.eq_withCredits hconfig hqueue hmissed
  generalize hv : u.doWork (.arrive r) = v
  have hvabsorb : v = u.absorb r.source ((u.src r.source).intake r (decide (u.freeCount ≠ 0))) := by
    rw [← hv]
    exact u.admitArrival_eq_absorb r
  have hintake : (u.src r.source).intake r (decide (u.freeCount ≠ 0)) =
      { (s.src r.source).intake r (decide (u.freeCount ≠ 0)) with
        record := { ((s.src r.source).intake r (decide (u.freeCount ≠ 0))).record with credits := (u.src r.source).credits } } := by
    rw [← Source.intake_withCredits, ← husrc]
  rw [hintake] at hvabsorb
  have hrest := State.foldl_doWork_frame l₂ v
  obtain ⟨hqueue, hmissed⟩ := State.foldl_doWork_other (i := r.source) v fun k hk => (hafter k hk).symm
  have hpool := (State.foldl_doWork_poolFrame l₂ v).freeCount
  refine ⟨decide (u.freeCount ≠ 0), ⟨?_, ?_, fun h => ?_, fun h => ?_, fun h => ?_⟩, fun hneeds hroom => ?_, fun hzero => ?_⟩
  · rw [hqueue, hvabsorb, State.absorb_src, if_pos rfl]
  · rw [hmissed, hvabsorb, State.absorb_src, if_pos rfl]
  · exact hrest.missed (by rw [hvabsorb]; exact Bool.or_eq_true_iff.mpr (.inr h))
  · exact hrest.poolEmpty (by rw [hvabsorb]; exact Bool.or_eq_true_iff.mpr (.inr h))
  · have hu0 : u.freeCount = 0 := by simpa using h
    have hv0 : v.freeCount = 0 := by rw [hvabsorb, State.absorb_freeCount, hu0, Nat.zero_sub]
    omega
  · have htaken := State.foldl_doWork_freeCount l₁ s hl₁
    have hself : s.workNeeds (.arrive r) = true := hneeds
    rw [hu] at htaken
    rw [List.filter_append, List.filter_cons, if_pos hself, List.length_append, List.length_cons] at hroom
    exact decide_eq_true (by omega)
  · have hmono := (State.foldl_doWork_poolFrame l₁ s).freeCount
    rw [hu] at hmono
    exact decide_eq_false (by omega)

/-! ### The arrivals of a tick -/

/-- The lines' arrivals are of different sources, in ascending order (R52). -/
theorem State.lineArrivals_ascending (s : State) (w : Word) : (s.lineArrivals w).Pairwise fun a b => a.source < b.source := by
  refine List.pairwise_filterMap.mpr ((List.pairwise_lt_finRange 16).imp ?_)
  intro m n hmn a ha b hb
  rw [(State.lineArrival_fits ha).1, (State.lineArrival_fits hb).1]
  exact hmn

/-- An arrival of a timer is the record of an expiry (R75). -/
theorem State.mem_timerArrivals {s : State} {r : Record} : r ∈ s.timerArrivals ↔ ∃ n, s.timers[n].expires = true ∧ r = s.expiryRecord n := by
  simp only [State.timerArrivals, List.mem_filterMap, List.mem_finRange, true_and]
  refine exists_congr fun n => ?_
  cases s.timers[n].expires <;> simp [eq_comm]

/-- The timers' arrivals are of different sources, in ascending order. -/
theorem State.timerArrivals_ascending (s : State) : s.timerArrivals.Pairwise fun a b => a.source < b.source := by
  refine List.pairwise_filterMap.mpr ((List.pairwise_lt_finRange 4).imp ?_)
  intro m n hmn a ha b hb
  split at ha
  · split at hb
    · rw [← Option.some.inj ha, ← Option.some.inj hb]
      exact Nat.add_lt_add_left hmn 20
    · simp at hb
  · simp at ha

/-- An arrival of a line is of a source 0 to 15. -/
theorem State.source_of_mem_lineArrivals {s : State} {w : Word} {r : Record} (h : r ∈ s.lineArrivals w) : r.source.val < 16 := by
  obtain ⟨n, -, hn⟩ := List.mem_filterMap.mp h
  rw [(State.lineArrival_fits hn).1]
  exact n.isLt

/-- An arrival of a timer is of a source 20 to 23. -/
theorem State.source_of_mem_timerArrivals {s : State} {r : Record} (h : r ∈ s.timerArrivals) : 20 ≤ r.source.val := by
  obtain ⟨n, -, rfl⟩ := State.mem_timerArrivals.mp h
  exact Nat.le_add_right 20 n.val

/-- A tick makes at most 20 arrivals. -/
theorem State.tickArrivals_length (s : State) (w : Word) : (s.tickArrivals w).length ≤ 20 := by
  have hlines : (s.lineArrivals w).length ≤ 16 := (List.length_filterMap_le _ _).trans (by simp [allLines])
  have htimers : s.timerArrivals.length ≤ 4 := (List.length_filterMap_le _ _).trans (by simp)
  rw [State.tickArrivals, List.length_append]
  omega

/-- The works of a tick are of different numbers: at most one arrival of each source, and at most one aging expiry. -/
theorem State.tickWorks_distinct (s : State) (w : Word) (age : Bool) :
    (tickWorks (s.tickArrivals w) age).Pairwise fun a b => a.index ≠ b.index := by
  have harrivals : (s.tickArrivals w).Pairwise fun a b => a.source < b.source := by
    refine List.pairwise_append.mpr ⟨s.lineArrivals_ascending w, s.timerArrivals_ascending, fun a ha b hb => ?_⟩
    have hline := State.source_of_mem_lineArrivals ha
    have htimer := State.source_of_mem_timerArrivals hb
    exact Fin.lt_def.mpr (by omega)
  refine List.pairwise_append.mpr ⟨List.pairwise_map.mpr (harrivals.imp fun h => (Fin.lt_def.mp h).ne), ?_, ?_⟩
  · cases age <;> simp
  · intro a ha b hb
    obtain ⟨r, -, rfl⟩ := List.mem_map.mp ha
    have hb' : b = .age := by cases age <;> simp at hb; exact hb
    have hr := r.source.isLt
    rw [hb']
    simp only [TickWork.index]
    omega

/-- The slots that the works of a tick need are those that its arrivals need. -/
theorem State.filter_workNeeds_tickWorks (s : State) (arrivals : List Record) (age : Bool) :
    ((tickWorks arrivals age).filter s.workNeeds).length = (arrivals.filter s.needsSlot).length := by
  have hage : (if age then [TickWork.age] else []).filter s.workNeeds = [] := by cases age <;> simp [State.workNeeds]
  have harrive : s.workNeeds ∘ TickWork.arrive = s.needsSlot := rfl
  rw [tickWorks, List.filter_append, hage, List.append_nil, List.filter_map, List.length_map, harrive]

/-- Each arrival of a tick is taken as its source's record stood before the tick: with a slot when as many are free as the arrivals need, so with 20,
and without one when none is free (R5, R52, R75). -/
theorem State.tickEffect_arrived {s : State} {w : Word} {r : Record} (hr : r ∈ s.advanceTime.tickArrivals w) :
    ∃ slot, Arrived s (s.tickEffect w) r slot ∧
      (s.needsSlot r = true → 20 ≤ s.freeCount ∨ ((s.advanceTime.tickArrivals w).filter s.needsSlot).length ≤ s.freeCount → slot = true) ∧
      (s.freeCount = 0 → slot = false) := by
  obtain ⟨l, d, hperm, heq⟩ := s.tickEffect_foldl w
  have hdistinct := hperm.symm.pairwise (State.tickWorks_distinct _ w _) fun h => Ne.symm h
  have hneeds : (s.counted w d).needsSlot = s.needsSlot := by
    funext x
    rw [State.needsSlot_eq, State.needsSlot_eq, State.counted_src]
  have hcount : (l.filter (s.counted w d).workNeeds).length = ((s.advanceTime.tickArrivals w).filter s.needsSlot).length := by
    rw [(hperm.filter _).length_eq, State.filter_workNeeds_tickWorks, hneeds]
  obtain ⟨slot, harrived, hslot, hnone⟩ :=
    State.foldl_doWork_arrived (s := s.counted w d) hdistinct (hperm.mem_iff.mpr (arrive_mem_tickWorks.mpr hr))
  rw [hcount, hneeds, State.counted_freeCount] at hslot
  rw [State.counted_freeCount] at hnone
  rw [← heq] at harrived
  refine ⟨slot, ?_, fun hn hroom => hslot hn ?_, hnone⟩
  · obtain ⟨hqueue, hmissed, hflag, hempty, hfree⟩ := harrived
    rw [State.counted_src] at hqueue hmissed hflag hempty
    exact ⟨hqueue, hmissed, hflag, hempty, hfree⟩
  · have hlen := (List.length_filter_le s.needsSlot (s.advanceTime.tickArrivals w)).trans (State.tickArrivals_length _ w)
    omega

/-- A source for which the tick makes no arrival keeps its queue and its missed count. -/
theorem State.tickEffect_other {s : State} {w : Word} {i : Fin 24} (h : ∀ r ∈ s.advanceTime.tickArrivals w, r.source ≠ i) :
    ((s.tickEffect w).src i).queue = (s.src i).queue ∧ ((s.tickEffect w).src i).missed = (s.src i).missed := by
  obtain ⟨l, d, hperm, heq⟩ := s.tickEffect_foldl w
  have hother : ∀ k ∈ l, k.index ≠ i.val := by
    intro k hk
    cases k with
    | age => have := i.isLt; simp only [TickWork.index]; omega
    | arrive r => exact fun he => h r (arrive_mem_tickWorks.mp (hperm.mem_iff.mp hk)) (Fin.ext he)
  obtain ⟨hqueue, hmissed⟩ := State.foldl_doWork_other (s.counted w d) hother
  rw [heq, hqueue, hmissed, State.counted_src]
  exact ⟨rfl, rfl⟩

/-- A tick is within the pool's frame. -/
theorem State.tickEffect_poolFrame (s : State) (w : Word) : PoolFrame s (s.tickEffect w) := by
  obtain ⟨l, d, -, heq⟩ := s.tickEffect_foldl w
  have hcounted : PoolFrame s (s.counted w d) := PoolFrame.of_eq (by simp) (by simp) (by simp)
  rw [heq]
  exact hcounted.trans (State.foldl_doWork_poolFrame l _)

end Sys2Proof.Machine
end

section
/-! The arrivals, the timers and the credits at a tick (01, 03, 04, 05): the statements about R11 to R16, R51, R52, R75, R88, R89 and R92. -/

namespace Sys2Proof.Machine

/-! ### The arrival of a line -/

/-- A sample qualifies a transition on a seeded line when it differs from the qualified level and the run reaches the filter count (R48). -/
theorem Line.qualifies_iff {l : Line} {b : Bool} : l.qualifies b = true ↔ l.seeded = true ∧ b ≠ l.qual ∧ l.filter ≤ l.run + 1 := by
  simp only [Line.qualifies, Bool.and_eq_true, bne_iff_ne, decide_eq_true_iff, and_assoc]

/-- A line arrives at a tick when its sample qualifies a transition that its mode makes something of (R48, R51). -/
theorem State.lineArrival_eq_some {s : State} {w : Word} {n : Fin 16} {k : Kind} (hs : s.lines[n].seeded = true)
    (hb : w.getLsbD n.val ≠ s.lines[n].qual) (hf : s.lines[n].filter ≤ s.lines[n].run + 1)
    (hk : s.lines[n].mode.arrivalKind (w.getLsbD n.val) = some k) :
    s.lineArrival w n = some { source := lineSource n, kind := k, stamp := s.timestamp, datum := (s.sampleLines w).octet n } := by
  have hq : s.lines[n].qualifies (w.getLsbD n.val) = true := Line.qualifies_iff.mpr ⟨hs, hb, hf⟩
  simp only [State.lineArrival, hq, hk, if_true, Option.map_some]

/-- A line makes no arrival when it is unseeded, its sample does not qualify, or its mode makes nothing of the direction (R47, R48, R51). -/
theorem State.lineArrival_eq_none {s : State} {w : Word} {n : Fin 16}
    (h : s.lines[n].seeded = false ∨ w.getLsbD n.val = s.lines[n].qual ∨ s.lines[n].run + 1 < s.lines[n].filter ∨
      s.lines[n].mode.arrivalKind (w.getLsbD n.val) = none) : s.lineArrival w n = none := by
  unfold State.lineArrival
  split
  · next hq =>
    obtain ⟨hs, hb, hf⟩ := Line.qualifies_iff.mp hq
    rcases h with h | h | h | h
    · exact absurd (hs.symm.trans h) (by simp)
    · exact absurd h hb
    · omega
    · rw [h]
      rfl
  · rfl

/-- The arrivals of a line source at a tick are those of its line. -/
theorem State.mem_tickArrivals_line {s : State} {w : Word} {n : Fin 16} {r : Record} (hr : r.source = lineSource n) :
    r ∈ s.tickArrivals w ↔ s.lineArrival w n = some r := by
  constructor
  · intro h
    rcases List.mem_append.mp h with hline | htimer
    · obtain ⟨m, -, hm⟩ := List.mem_filterMap.mp hline
      have hmn : m = n := by
        have heq := (State.lineArrival_fits hm).1.symm.trans hr
        exact Fin.ext (Fin.mk.inj_iff.mp heq)
      rw [← hmn]
      exact hm
    · have hlow := State.source_of_mem_timerArrivals htimer
      have hn := n.isLt
      rw [hr] at hlow
      simp only [lineSource] at hlow
      omega
  · intro h
    exact List.mem_append_left _ (List.mem_filterMap.mpr ⟨n, List.mem_finRange n, h⟩)

/-- The arrivals of an interval source at a tick are its timer's expiry (R75). -/
theorem State.mem_tickArrivals_timer {s : State} {w : Word} {n : Fin 4} {r : Record} (hr : r.source = timerSource n) :
    r ∈ s.tickArrivals w ↔ s.timers[n].expires = true ∧ r = s.expiryRecord n := by
  constructor
  · intro h
    rcases List.mem_append.mp h with hline | htimer
    · have hhigh := State.source_of_mem_lineArrivals hline
      rw [hr] at hhigh
      simp only [timerSource] at hhigh
      omega
    · obtain ⟨m, hm, rfl⟩ := State.mem_timerArrivals.mp htimer
      have hmn : m = n := by
        have heq := Fin.mk.inj_iff.mp hr
        exact Fin.ext (by omega)
      rw [← hmn]
      exact ⟨hm, rfl⟩
  · rintro ⟨hexp, rfl⟩
    exact List.mem_append_right _ (State.mem_timerArrivals.mpr ⟨n, hexp, rfl⟩)

/-- After a tick the octets are those of the sampled lines (R52). -/
theorem State.tickEffect_octet (s : State) (w : Word) (n : Fin 16) :
    (s.tickEffect w).octet n = (s.advanceTime.sampleLines w).octet n := by
  obtain ⟨d, hframe⟩ := s.tickEffect_frame w
  rw [hframe.octet]
  unfold State.octet State.qualWord
  have hlines : (s.counted w d).lines = (s.advanceTime.sampleLines w).lines := by rw [State.counted_eq]
  rw [hlines]

/-- With ADMIT off an arrival leaves queue and missed count (R10). -/
theorem Arrived.off {s t : State} {r : Record} {slot : Bool} (h : Arrived s t r slot) (ha : (s.src r.source).admitOn = false) :
    (t.src r.source).queue = (s.src r.source).queue ∧ (t.src r.source).missed = (s.src r.source).missed := by
  rw [h.queue, h.missed, Source.intake_off ha]
  exact ⟨rfl, rfl⟩

/-- A source whose arrivals at a tick all find ADMIT off keeps its queue and its missed count. -/
theorem State.tickEffect_off {s : State} {w : Word} {i : Fin 24} (ha : (s.src i).admitOn = false) :
    ((s.tickEffect w).src i).queue = (s.src i).queue ∧ ((s.tickEffect w).src i).missed = (s.src i).missed := by
  by_cases h : ∃ r ∈ s.advanceTime.tickArrivals w, r.source = i
  · obtain ⟨r, hr, rfl⟩ := h
    obtain ⟨slot, harrived, -⟩ := State.tickEffect_arrived hr
    exact harrived.off ha
  · exact State.tickEffect_other fun r hr he => h ⟨r, hr, he⟩

/-- A loss at the empty pool, as the statements about a tick say it: the missed count and MISSED, POOL_EMPTY, and no slot left. -/
structure MetEmptyPool (s t : State) (i : Fin 24) (l : List Record) : Prop where
  missed : (t.src i).missed = min 255 ((s.src i).missed + 1)
  missedFlag : t.flags.missed = true
  emptyFlag : t.flags.poolEmpty = true
  noSlot : t.freeCount = 0
  queue : (t.src i).queue = l

/-- A queue with room takes the arrival in a slot, or meets the empty pool (R14, R15). -/
theorem Arrived.room {s t : State} {r : Record} {slot : Bool} (h : Arrived s t r slot) (ha : (s.src r.source).admitOn = true)
    (hi : isInterval r.source = false) (hroom : (s.src r.source).queue.length < (s.src r.source).quota) :
    (slot = true → (t.src r.source).queue = (s.src r.source).queue ++ [r] ∧ (t.src r.source).missed = (s.src r.source).missed) ∧
    (slot = false → MetEmptyPool s t r.source (if (s.src r.source).policy = .keepNewest ∧ (s.src r.source).queue ≠ [] then
      (s.src r.source).queue.tail ++ [r] else (s.src r.source).queue)) := by
  obtain ⟨hqueue, hmissed, hflag, hempty, hfree⟩ := h
  constructor
  · rintro rfl
    rw [hqueue, hmissed, Source.intake_append ha hi hroom]
    exact ⟨rfl, rfl⟩
  · rintro rfl
    by_cases hp : (s.src r.source).policy = .keepNewest ∧ (s.src r.source).queue ≠ []
    · rw [Source.intake_empty_pool_displaced ha hi hroom hp] at hqueue hmissed hflag hempty
      exact ⟨hmissed, hflag rfl, hempty rfl, hfree rfl, by rw [if_pos hp]; exact hqueue⟩
    · rw [Source.intake_empty_pool_lost ha hi hroom hp] at hqueue hmissed hflag hempty
      exact ⟨hmissed, hflag rfl, hempty rfl, hfree rfl, by rw [if_neg hp]; exact hqueue⟩

/-- A full queue loses the arrival under KEEP_OLDEST and its head under KEEP_NEWEST (R12, R13). -/
theorem Arrived.full {s t : State} {r : Record} {slot : Bool} (h : Arrived s t r slot) (ha : (s.src r.source).admitOn = true)
    (hi : isInterval r.source = false) (hfull : (s.src r.source).quota ≤ (s.src r.source).queue.length) :
    ((s.src r.source).policy ≠ .keepNewest → (t.src r.source).queue = (s.src r.source).queue) ∧
      ((s.src r.source).policy = .keepNewest → (t.src r.source).queue = (s.src r.source).queue.tail ++ [r]) ∧
      (t.src r.source).missed = min 255 ((s.src r.source).missed + 1) ∧ t.flags.missed = true := by
  obtain ⟨hqueue, hmissed, hflag, -, -⟩ := h
  by_cases hp : (s.src r.source).policy = .keepNewest
  · rw [Source.intake_full_displaced ha hi hfull hp] at hqueue hmissed hflag
    exact ⟨fun h => absurd hp h, fun _ => hqueue, hmissed, hflag rfl⟩
  · rw [Source.intake_full_lost ha hi hfull hp] at hqueue hmissed hflag
    exact ⟨fun _ => hqueue, fun h => absurd h hp, hmissed, hflag rfl⟩

/-- An arrival for a line or posted source needs a slot when its queue has room (R7). -/
theorem State.needsSlot_of_room {s : State} {r : Record} (ha : (s.src r.source).admitOn = true) (hi : isInterval r.source = false)
    (hroom : (s.src r.source).queue.length < (s.src r.source).quota) : s.needsSlot r = true := by
  simp [State.needsSlot, ha, hi, hroom]

/-- Settles O37: the arrival of a line is taken as its source's record stood before the tick, and a source without one keeps its queue. -/
theorem tickMakesTheArrivalOfAQualifiedTransition : Obligations.TickMakesTheArrivalOfAQualifiedTransition := by
  intro s w hrun hhigh
  have hpool := s.undriven.tickEffect_poolFrame w
  refine ⟨_, exec_tick (State.ticking_of hrun hhigh) w, fun i hlo hhi => ?_, hpool.freeCount, hpool.poolLow, ?_⟩
  · refine State.tickEffect_other (s := s.undriven) fun r hr he => ?_
    rcases List.mem_append.mp hr with hline | htimer
    · have := State.source_of_mem_lineArrivals hline
      omega
    · have := State.source_of_mem_timerArrivals htimer
      omega
  · intro n l b i kind
    have hkind : kind = l.mode.arrivalKind b := by
      simp only [kind]
      cases l.mode <;> cases b <;> rfl
    have hmem : ∀ r : Record, r.source = i → (r ∈ s.undriven.advanceTime.tickArrivals w ↔ s.undriven.advanceTime.lineArrival w n = some r) :=
      fun r hr => State.mem_tickArrivals_line hr
    constructor
    · intro hnone
      rw [hkind] at hnone
      by_cases ha : (s.src i).admitOn = false
      · exact State.tickEffect_off (s := s.undriven) ha
      · have harrival : s.undriven.advanceTime.lineArrival w n = none := State.lineArrival_eq_none (by tauto)
        refine State.tickEffect_other (s := s.undriven) fun r hr he => ?_
        rw [hmem r he, harrival] at hr
        simp at hr
    · intro k hs hb hf hk ha r lost
      rw [hkind] at hk
      have hr : r ∈ s.undriven.advanceTime.tickArrivals w := by
        rw [hmem r rfl]
        refine (State.lineArrival_eq_some (s := s.undriven.advanceTime) hs hb hf hk).trans (congrArg some ?_)
        simp only [r, State.tickEffect_octet]
        rfl
      obtain ⟨slot, harrived, hslot, hnoslot⟩ := State.tickEffect_arrived (s := s.undriven) hr
      have hi : isInterval r.source = false := isInterval_lineSource n
      refine ⟨fun hfull hp => ?_, fun hfull hp => ?_, fun hroom => ?_⟩
      · obtain ⟨hoverrun, -, hlost⟩ := harrived.full ha hi hfull
        exact ⟨hoverrun fun hnewest => Policy.noConfusion (hp.symm.trans hnewest), hlost⟩
      · obtain ⟨-, hdisplaced, hlost⟩ := harrived.full ha hi hfull
        exact ⟨hdisplaced hp, hlost⟩
      · intro appended metEmptyPool
        obtain ⟨happ, hmet⟩ := harrived.room ha hi hroom
        have hmet' : slot = false → metEmptyPool := fun h =>
          ⟨⟨(hmet h).missed, (hmet h).missedFlag⟩, (hmet h).emptyFlag, (hmet h).noSlot, (hmet h).queue⟩
        refine ⟨?_, fun hfree => happ (hslot (State.needsSlot_of_room ha hi hroom) hfree), fun hzero => hmet' (hnoslot hzero)⟩
        cases slot with
        | true => exact .inl (happ rfl)
        | false => exact .inr (hmet' rfl)

/-! ### The timers -/

/-- After a tick every timer has counted (R75). -/
theorem State.tickEffect_timer (s : State) (w : Word) (n : Fin 4) : (s.tickEffect w).timers[n] = s.timers[n].counted := by
  obtain ⟨d, hframe⟩ := s.tickEffect_frame w
  rw [hframe.timers, State.counted_timer]

/-- A timer expires at a tick when it is RUNNING with count 1 (R75). -/
theorem Timer.expires_iff {t : Timer} : t.expires = true ↔ t.running = true ∧ t.count = 1 := by
  simp [Timer.expires]

/-- A STOPPED timer is not counted (R75). -/
theorem Timer.counted_of_stopped {t : Timer} (h : t.running = false) : t.counted = t := by
  simp [Timer.counted, Timer.expires, h]

/-- A RUNNING timer away from 1 counts down (R75). -/
theorem Timer.counted_of_running {t : Timer} (h : t.running = true) (hc : t.count ≠ 1) : t.counted = { t with count := t.count - 1 } := by
  rw [Timer.counted, if_neg fun he => hc (Timer.expires_iff.mp he).2, if_pos h]

/-- An expiring REPEAT timer is loaded from its period and runs on (R75). -/
theorem Timer.counted_of_repeating {t : Timer} (h : t.running = true) (hc : t.count = 1) (hm : t.mode = .repeating) :
    t.counted = { t with count := t.period } := by
  simp [Timer.counted, Timer.expires, Timer.continued, h, hc, hm]

/-- An expiring ONE_SHOT timer stops at 0 (R75). -/
theorem Timer.counted_of_oneShot {t : Timer} (h : t.running = true) (hc : t.count = 1) (hm : t.mode = .oneShot) :
    t.counted = { t with running := false, count := 0 } := by
  simp [Timer.counted, Timer.expires, Timer.continued, h, hc, hm]

/-- An interval source's arrival with ADMIT on: merged, or lost on a saturated record (R11). -/
theorem Arrived.merged {s t : State} {r h : Record} {slot : Bool} (harr : Arrived s t r slot) (ha : (s.src r.source).admitOn = true)
    (hi : isInterval r.source = true) (hq : (s.src r.source).queue = [h]) :
    (h.datum ≠ 255 → (t.src r.source).queue = [{ h with datum := h.datum + 1 }] ∧ (t.src r.source).missed = (s.src r.source).missed) ∧
    (h.datum = 255 → (t.src r.source).queue = [h] ∧ (t.src r.source).missed = min 255 ((s.src r.source).missed + 1) ∧
      t.flags.missed = true) := by
  obtain ⟨hqueue, hmissed, hflag, -, -⟩ := harr
  constructor
  · intro hd
    rw [hqueue, hmissed, Source.intake_merged ha hi hq hd]
    exact ⟨rfl, rfl⟩
  · intro hd
    rw [Source.intake_saturated ha hi hq hd] at hqueue hmissed hflag
    exact ⟨hqueue.trans hq, hmissed, hflag rfl⟩

/-- An interval source's arrival with ADMIT on and an empty queue: queued, or lost at the empty pool (R11). -/
theorem Arrived.queued {s t : State} {r : Record} {slot : Bool} (harr : Arrived s t r slot) (ha : (s.src r.source).admitOn = true)
    (hi : isInterval r.source = true) (hq : (s.src r.source).queue = []) :
    (slot = true → (t.src r.source).queue = [r] ∧ (t.src r.source).missed = (s.src r.source).missed) ∧
    (slot = false → MetEmptyPool s t r.source []) := by
  obtain ⟨hqueue, hmissed, hflag, hempty, hfree⟩ := harr
  constructor
  · rintro rfl
    rw [hqueue, hmissed, Source.intake_interval_append ha hi hq]
    exact ⟨rfl, rfl⟩
  · rintro rfl
    rw [Source.intake_interval_lost ha hi hq] at hqueue hmissed hflag hempty
    exact ⟨hmissed, hflag rfl, hempty rfl, hfree rfl, hqueue.trans hq⟩

/-- Settles O38: every timer counts, and an expiry is taken as its source's record stood before the tick. -/
theorem tickCountsTheTimers : Obligations.TickCountsTheTimers := by
  intro s w hrun hhigh
  refine ⟨_, exec_tick (State.ticking_of hrun hhigh) w, ?_⟩
  intro n i lost
  have htimer : (s.undriven.tickEffect w).timers[n] = s.timers[n].counted := s.undriven.tickEffect_timer w n
  have hmem : ∀ r : Record, r.source = i → (r ∈ s.undriven.advanceTime.tickArrivals w ↔
      s.timers[n].expires = true ∧ r = s.undriven.advanceTime.expiryRecord n) := fun r hr => State.mem_tickArrivals_timer hr
  refine ⟨fun hstop => ?_, fun hrunning hcount => ?_, fun hrunning hcount hmode => ?_, fun hrunning hcount hmode => ?_, fun hnone => ?_,
    fun hrunning hcount ha => ?_⟩
  · exact htimer.trans (Timer.counted_of_stopped hstop)
  · exact htimer.trans (Timer.counted_of_running hrunning hcount)
  · exact htimer.trans (Timer.counted_of_repeating hrunning hcount hmode)
  · exact htimer.trans (Timer.counted_of_oneShot hrunning hcount hmode)
  · by_cases ha : (s.src i).admitOn = false
    · exact State.tickEffect_off (s := s.undriven) ha
    · refine State.tickEffect_other (s := s.undriven) fun r hr he => ?_
      obtain ⟨hrunning, hcount⟩ := Timer.expires_iff.mp ((hmem r he).mp hr).1
      rcases hnone with h | h | h
      · exact absurd (hrunning.symm.trans h) (by simp)
      · exact h hcount
      · exact ha h
  · have hr : s.undriven.advanceTime.expiryRecord n ∈ s.undriven.advanceTime.tickArrivals w :=
      (hmem _ rfl).mpr ⟨Timer.expires_iff.mpr ⟨hrunning, hcount⟩, rfl⟩
    obtain ⟨slot, harrived, hslot, hnoslot⟩ := State.tickEffect_arrived (s := s.undriven) hr
    have hi : isInterval (s.undriven.advanceTime.expiryRecord n).source = true := isInterval_timerSource n
    refine ⟨fun h hq => harrived.merged ha hi hq, fun hq => ?_⟩
    intro queued metEmptyPool
    obtain ⟨happ, hmet⟩ := harrived.queued ha hi hq
    have hmet' : slot = false → metEmptyPool := fun h =>
      ⟨⟨(hmet h).missed, (hmet h).missedFlag⟩, (hmet h).emptyFlag, (hmet h).noSlot, (hmet h).queue⟩
    have hneeds : s.needsSlot (s.undriven.advanceTime.expiryRecord n) = true := by
      have ha' : (s.src (s.undriven.advanceTime.expiryRecord n).source).admitOn = true := ha
      have hq' : (s.src (s.undriven.advanceTime.expiryRecord n).source).queue = [] := hq
      simp [State.needsSlot, ha', hi, hq']
    refine ⟨?_, fun hfree => happ (hslot hneeds hfree), fun hzero => hmet' (hnoslot hzero)⟩
    cases slot with
    | true => exact .inl (happ rfl)
    | false => exact .inr (hmet' rfl)

/-! ### The credits -/

/-- The aging count reaches 0 at a tick when it is 1 and AGE_PERIOD is not 0 (R88). -/
theorem State.agingDue_iff {s : State} : s.agingDue = true ↔ s.agePeriod ≠ 0 ∧ s.agingCount = 1 := by
  simp only [State.agingDue, Bool.and_eq_true, bne_iff_ne, beq_iff_eq]

/-- With AGE_PERIOD 0 nothing is counted (R88). -/
theorem State.countAging_off {s : State} (h : s.agePeriod = 0) : s.countAging = s := if_pos h

/-- Away from 1 the aging count is lowered (R88). -/
theorem State.countAging_lowered {s : State} (h : s.agePeriod ≠ 0) (hc : s.agingCount ≠ 1) :
    s.countAging = { s with agingCount := s.agingCount - 1 } := (if_neg h).trans (if_neg hc)

/-- From 1 the aging count is loaded with AGE_PERIOD (R88). -/
theorem State.countAging_loaded {s : State} (h : s.agePeriod ≠ 0) (hc : s.agingCount = 1) :
    s.countAging = { s with agingCount := s.agePeriod } := (if_neg h).trans (if_pos hc)

/-- An arrival keeps every source's credits. -/
theorem State.admitArrival_credits (s : State) (r : Record) (i : Fin 24) : ((s.admitArrival r).2.src i).credits = (s.src i).credits := by
  by_cases h : i = r.source
  · rw [h]; exact (s.admit_frame r).credits
  · rw [(s.admit_frame r).others i h]

/-- Works without an aging expiry keep every source's credits. -/
theorem State.foldl_doWork_credits {l : List TickWork} (s : State) (h : .age ∉ l) (i : Fin 24) :
    ((l.foldl State.doWork s).src i).credits = (s.src i).credits := by
  induction l generalizing s with
  | nil => rfl
  | cons k l ih =>
    rw [List.foldl_cons, ih _ fun hage => h (List.mem_cons_of_mem _ hage)]
    cases k with
    | arrive r => exact s.admitArrival_credits r i
    | age => exact absurd List.mem_cons_self h

/-- No work empties a queue. -/
theorem State.foldl_doWork_queue_ne_nil {l : List TickWork} {s : State} {i : Fin 24} (h : (s.src i).queue ≠ []) :
    ((l.foldl State.doWork s).src i).queue ≠ [] := by
  induction l generalizing s with
  | nil => exact h
  | cons k l ih =>
    refine ih ?_
    cases k with
    | arrive r => exact s.admit_queue_ne_nil r i h
    | age => exact (State.grantCredits_queue s i).symm ▸ h

/-- Works keep every source's BID bit. -/
theorem WorkFrame.bid {s t : State} (h : WorkFrame s t) (i : Fin 24) : (t.src i).bid = (s.src i).bid := congrArg (·.2.1) (h.config i)

/-- Works keep every source's class. -/
theorem WorkFrame.cls {s t : State} (h : WorkFrame s t) (i : Fin 24) : (t.src i).cls = (s.src i).cls := congrArg (·.2.2.2.2.1) (h.config i)

/-- Works keep which source is eligible, but that an arrival may make an IDLE one so. -/
theorem WorkFrame.eligible_of {s t : State} (h : WorkFrame s t) {i : Fin 24} (ht : t.eligible i = true) :
    (s.src i).bid = true ∧ s.onStack i = false ∧ (t.src i).queue ≠ [] := by
  obtain ⟨hbid, hqueue, hstack⟩ := State.eligible_iff.mp ht
  exact ⟨h.bid i ▸ hbid, h.onStack i ▸ hstack, hqueue⟩

/-- With one aging expiry among the works, each source gains one credit exactly when it is eligible at the expiry and below 16 (R89). -/
theorem State.foldl_doWork_aged {l : List TickWork} (s : State) (hl : l.Pairwise fun a b => a.index ≠ b.index) (hage : .age ∈ l) :
    ∃ u v, WorkFrame s u ∧ (∀ i, (u.src i).credits = (s.src i).credits) ∧ (∀ i, (s.src i).queue ≠ [] → (u.src i).queue ≠ []) ∧
      (∀ i, (u.src i).queue ≠ [] → (v.src i).queue ≠ []) ∧ l.foldl State.doWork s = v ∧
      ∀ i, (v.src i).credits = if u.eligible i = true ∧ (u.src i).credits < 16 then (u.src i).credits + 1 else (u.src i).credits := by
  obtain ⟨l₁, l₂, rfl⟩ := List.append_of_mem hage
  obtain ⟨-, hcons, hcross⟩ := List.pairwise_append.mp hl
  have hbefore : .age ∉ l₁ := fun h => hcross _ h _ List.mem_cons_self rfl
  have hafter : .age ∉ l₂ := fun h => (List.pairwise_cons.mp hcons).1 _ h rfl
  refine ⟨l₁.foldl State.doWork s, _, State.foldl_doWork_frame l₁ s, State.foldl_doWork_credits s hbefore,
    fun i => State.foldl_doWork_queue_ne_nil, fun i hq => ?_, List.foldl_append, fun i => ?_⟩
  · exact State.foldl_doWork_queue_ne_nil (l := .age :: l₂) hq
  · rw [List.foldl_cons, State.foldl_doWork_credits _ hafter]
    change ((l₁.foldl State.doWork s).grantCredits.src i).credits = _
    rw [State.grantCredits_src]
    split <;> rfl

/-- After a tick the aging count is the counted one (R88). -/
theorem State.tickEffect_agingCount (s : State) (w : Word) : (s.tickEffect w).agingCount = s.advanceTime.countAging.agingCount := by
  obtain ⟨d, hframe⟩ := s.tickEffect_frame w
  rw [hframe.agingCount, State.counted_agingCount]

/-- The aging expiry is a work of the tick exactly when it is due. -/
theorem age_mem_tickWorks {arrivals : List Record} {age : Bool} : .age ∈ tickWorks arrivals age ↔ age = true := by
  cases age <;> simp [tickWorks]

/-- A tick without an aging expiry keeps every source's credits. -/
theorem State.tickEffect_credits {s : State} (h : s.agingDue = false) (w : Word) (i : Fin 24) :
    ((s.tickEffect w).src i).credits = (s.src i).credits := by
  obtain ⟨l, d, hperm, heq⟩ := s.tickEffect_foldl w
  have hnone : .age ∉ l := by
    rw [hperm.mem_iff, age_mem_tickWorks]
    exact fun hdue => Bool.false_ne_true (h.symm.trans hdue)
  rw [heq, State.foldl_doWork_credits _ hnone, State.counted_src]

/-- At a tick with an aging expiry each source gains a credit exactly when it is eligible at the expiry, which comes among the arrivals. -/
theorem State.tickEffect_aged {s : State} (h : s.agingDue = true) (w : Word) :
    ∃ u : State, (∀ i, (u.src i).credits = (s.src i).credits) ∧
      (∀ i, u.eligible i = true → (s.src i).bid = true ∧ s.onStack i = false ∧ ((s.tickEffect w).src i).queue ≠ []) ∧
      (∀ i, s.eligible i = true → u.eligible i = true) ∧
      ∀ i, ((s.tickEffect w).src i).credits =
        if u.eligible i = true ∧ (s.src i).credits < 16 then (s.src i).credits + 1 else (s.src i).credits := by
  obtain ⟨l, d, hperm, heq⟩ := s.tickEffect_foldl w
  have hdistinct := hperm.symm.pairwise (State.tickWorks_distinct _ w _) fun h => Ne.symm h
  have hage : .age ∈ l := hperm.mem_iff.mpr (age_mem_tickWorks.mpr h)
  obtain ⟨u, v, hframe, hcredits, hbefore, hafter, hv, hgain⟩ := State.foldl_doWork_aged (s.counted w d) hdistinct hage
  have hon : ∀ i, (s.counted w d).onStack i = s.onStack i := fun i => State.onStack_congr (s.counted_stack_frame w d).2 i
  rw [heq, hv]
  simp only [State.counted_src] at hcredits hbefore
  refine ⟨u, hcredits, fun i hu => ?_, fun i hs => ?_, fun i => ?_⟩
  · obtain ⟨hbid, hstack, hqueue⟩ := hframe.eligible_of hu
    rw [State.counted_src] at hbid
    rw [hon] at hstack
    exact ⟨hbid, hstack, hafter i hqueue⟩
  · obtain ⟨hbid, hqueue, hstack⟩ := State.eligible_iff.mp hs
    have hsame : (u.src i).bid = (s.src i).bid := (hframe.bid i).trans (by rw [State.counted_src])
    exact State.eligible_iff.mpr ⟨hsame ▸ hbid, hbefore i hqueue, by rw [hframe.onStack, hon, hstack]⟩
  · rw [hgain, hcredits]

/-- Settles O39: the aging count is counted on its own, and the credits are those of the one expiry among the works. -/
theorem tickCountsTheAgingPeriod : Obligations.TickCountsTheAgingPeriod := by
  intro s w hrun hhigh
  have hcount : (s.undriven.tickEffect w).agingCount = s.undriven.advanceTime.countAging.agingCount := s.undriven.tickEffect_agingCount w
  refine ⟨_, exec_tick (State.ticking_of hrun hhigh) w, fun hp => ?_, fun hp h1 => ?_, fun hp h1 => ?_, fun hnot i => ?_, fun hp h1 i => ?_⟩
  · rw [hcount, State.countAging_off (s := s.undriven.advanceTime) hp]
    rfl
  · rw [hcount, State.countAging_lowered (s := s.undriven.advanceTime) hp h1]
    rfl
  · rw [hcount, State.countAging_loaded (s := s.undriven.advanceTime) hp h1]
    rfl
  · refine State.tickEffect_credits (s := s.undriven) (Bool.eq_false_iff.mpr fun hdue => ?_) w i
    obtain ⟨hp, h1⟩ := State.agingDue_iff.mp hdue
    exact hnot.elim hp fun h => h h1
  · have hdue : s.undriven.agingDue = true := State.agingDue_iff.mpr ⟨hp, h1⟩
    obtain ⟨u, -, hlimits, hkept, hgain⟩ := State.tickEffect_aged hdue w
    have hgain := hgain i
    refine ⟨fun he hlt => ?_, fun hout => ?_, fun he hq => ?_, ?_⟩
    · rw [hgain, if_pos ⟨hkept i he, hlt⟩]
      rfl
    · rw [hgain, if_neg]
      · rfl
      · rintro ⟨hu, hlt⟩
        obtain ⟨hbid, hstack, -⟩ := hlimits i hu
        rcases hout with h | h | h
        · exact absurd hlt (Nat.not_lt.mpr h)
        · exact absurd (hbid.symm.trans h) (by simp)
        · exact absurd (hstack.symm.trans h) (by simp)
    · rw [hgain, if_neg]
      · rfl
      · rintro ⟨hu, -⟩
        obtain ⟨hbid, hstack, hqueue⟩ := hlimits i hu
        rw [hq] at hqueue
        have htrue : s.eligible i = true := State.eligible_iff.mpr ⟨hbid, hqueue, hstack⟩
        exact absurd (he.symm.trans htrue) (by simp)
    · rw [hgain]
      split
      · exact .inr rfl
      · exact .inl rfl

end Sys2Proof.Machine
end

section
/-! Re-assertion (03, 6; 01, 4): one occasion, a run of them over different sources, and what a pop makes of the two. -/

namespace Sys2Proof.Machine

/-! ### One occasion -/

/-- An active line is in a LEVEL mode (R54). -/
theorem Line.isLevel_of_active {l : Line} (h : l.active = true) : l.mode.isLevel = true := by
  unfold Line.active at h
  cases hm : l.mode <;> simp [hm, LineMode.isLevel] at h ⊢

/-- The re-assertion test: the line is active, the queue empty, and the source on no context (R55). -/
theorem State.reassertable_iff {s : State} {n : Fin 16} :
    s.reassertable n = true ↔ s.lines[n].active = true ∧ (s.src (lineSource n)).queue = [] ∧ s.onStack (lineSource n) = false := by
  have hiff : s.reassertable n = true ↔ ((s.lines[n].mode.isLevel = true ∧ s.lines[n].active = true) ∧ (s.src (lineSource n)).queue = []) ∧
      s.onStack (lineSource n) = false := by
    unfold State.reassertable
    rw [Bool.and_eq_true, Bool.and_eq_true, Bool.and_eq_true, List.isEmpty_iff, Bool.not_eq_true']
  rw [hiff]
  exact ⟨fun ⟨⟨⟨_, ha⟩, hq⟩, ho⟩ => ⟨ha, hq, ho⟩, fun ⟨ha, hq, ho⟩ => ⟨⟨⟨Line.isLevel_of_active ha, ha⟩, hq⟩, ho⟩⟩

/-- An occasion that the test does not pass does nothing (R55). -/
theorem State.reassert_of_not {s : State} {n : Fin 16} (h : s.reassertable n = false) : s.reassert n = s := by
  simp [State.reassert, h]

/-- With ADMIT off an occasion does nothing (R10). -/
theorem State.reassert_off {s : State} {n : Fin 16} (ha : (s.src (lineSource n)).admitOn = false) : s.reassert n = s := by
  unfold State.reassert
  split
  · rw [State.admitArrival_off (r := s.reassertRecord n) ha]
  · rfl

section
variable {s : State} {n : Fin 16} (h : s.reassertable n = true) (ha : (s.src (lineSource n)).admitOn = true)
  (hq : 1 ≤ (s.src (lineSource n)).quota)
include h ha hq

/-- A due re-assertion takes a free slot for its record (R55, R14). -/
theorem State.reassert_queued (hf : s.freeCount ≠ 0) :
    s.reassert n = s.absorb (lineSource n) ⟨{ s.src (lineSource n) with queue := [s.reassertRecord n] }, true, false, false⟩ := by
  obtain ⟨-, hempty, -⟩ := State.reassertable_iff.mp h
  have hroom : (s.src (lineSource n)).queue.length < (s.src (lineSource n)).quota := by rw [hempty]; exact hq
  have happend := Source.intake_append (r := s.reassertRecord n) ha (isInterval_lineSource n) hroom
  rw [hempty, List.nil_append] at happend
  rw [State.reassert, if_pos h, State.admitArrival_eq_absorb, decide_eq_true hf]
  exact congrArg _ happend

/-- A due re-assertion without a free slot is lost (R55, R15). -/
theorem State.reassert_lost (hf : s.freeCount = 0) :
    s.reassert n = s.absorb (lineSource n) ⟨(s.src (lineSource n)).lost, false, true, true⟩ := by
  obtain ⟨-, hempty, -⟩ := State.reassertable_iff.mp h
  have hroom : (s.src (lineSource n)).queue.length < (s.src (lineSource n)).quota := by rw [hempty]; exact hq
  have hlost := Source.intake_empty_pool_lost (r := s.reassertRecord n) ha (isInterval_lineSource n) hroom fun hp => hp.2 hempty
  rw [State.reassert, if_pos h, State.admitArrival_eq_absorb, decide_eq_false (not_not.mpr hf)]
  exact congrArg _ hlost

end

/-! ### The sources whose re-assertion is due -/

/-- A re-assertion of source `i` is due, and ADMIT lets it in (R55, R10). -/
def State.dueSource (s : State) (i : Fin 24) : Bool :=
  decide ((s.src i).admitOn = true ∧ (s.src i).queue = [] ∧ s.onStack i = false ∧ ∃ n : Fin 16, n.val = i.val ∧ s.lines[n].active = true)

/-- The occasion of a line's source is the line's. -/
@[simp] theorem State.reassertSource_lineSource (s : State) (n : Fin 16) : s.reassertSource (lineSource n) = s.reassert n := by
  unfold State.reassertSource
  rw [lineOf_eq_some.mpr rfl]

/-- What is due is a line source whose test passes, with ADMIT on. -/
theorem State.dueSource_lineSource {s : State} {n : Fin 16} :
    s.dueSource (lineSource n) = true ↔ s.reassertable n = true ∧ (s.src (lineSource n)).admitOn = true := by
  rw [State.dueSource, decide_eq_true_iff, State.reassertable_iff]
  constructor
  · rintro ⟨ha, hq, ho, m, hm, hact⟩
    rw [Fin.ext hm] at hact
    exact ⟨⟨hact, hq, ho⟩, ha⟩
  · rintro ⟨⟨hact, hq, ho⟩, ha⟩
    exact ⟨ha, hq, ho, n, rfl, hact⟩

/-- A due source is a line's. -/
theorem State.exists_line_of_due {s : State} {i : Fin 24} (h : s.dueSource i = true) : ∃ n, lineSource n = i := by
  rw [State.dueSource, decide_eq_true_iff] at h
  obtain ⟨-, -, -, n, hn, -⟩ := h
  exact ⟨n, Fin.ext hn⟩

/-- The occasion of a source that is not due does nothing. -/
theorem State.reassertSource_of_not_due {s : State} {i : Fin 24} (h : s.dueSource i = false) : s.reassertSource i = s := by
  cases hl : lineOf i with
  | none => simp [State.reassertSource, hl]
  | some n =>
    obtain rfl := lineOf_eq_some.mp hl
    rw [State.reassertSource_lineSource]
    by_cases ht : s.reassertable n = true
    · refine State.reassert_off (Bool.eq_false_iff.mpr fun ha => ?_)
      rw [State.dueSource_lineSource.mpr ⟨ht, ha⟩] at h
      simp at h
    · exact State.reassert_of_not (Bool.eq_false_iff.mpr ht)

/-- The occasion of a source is within the frame of that source. -/
theorem State.reassertSource_frame (s : State) (i : Fin 24) : AdmitFrame s (s.reassertSource i) i := by
  cases hl : lineOf i with
  | none =>
    rw [show s.reassertSource i = s by simp [State.reassertSource, hl]]
    exact AdmitFrame.refl s i
  | some n =>
    obtain rfl := lineOf_eq_some.mp hl
    rw [State.reassertSource_lineSource]
    exact s.reassert_frame n

/-- The occasion of a source is within the pool's frame. -/
theorem State.reassertSource_poolFrame (s : State) (i : Fin 24) : PoolFrame s (s.reassertSource i) := by
  cases hd : s.dueSource i with
  | false =>
    rw [State.reassertSource_of_not_due hd]
    exact PoolFrame.of_eq rfl rfl rfl
  | true =>
    obtain ⟨n, rfl⟩ := State.exists_line_of_due hd
    rw [State.reassertSource_lineSource, State.reassert, if_pos (State.dueSource_lineSource.mp hd).1]
    exact s.admitArrival_poolFrame _

/-- The occasion of one source leaves what is due of another. -/
theorem State.reassertSource_dueSource {s : State} {i j : Fin 24} (h : j ≠ i) : (s.reassertSource i).dueSource j = s.dueSource j := by
  have hframe := s.reassertSource_frame i
  unfold State.dueSource
  rw [hframe.others j h, hframe.work.onStack, hframe.work.lines]

/-- The record of a re-assertion reads the timestamp and the lines alone. -/
theorem WorkFrame.reassertRecord {s t : State} (h : WorkFrame s t) (n : Fin 16) : t.reassertRecord n = s.reassertRecord n := by
  unfold State.reassertRecord
  rw [h.timestamp, h.octet]

/-! ### A run of occasions -/

/-- What a run of occasions over the sources `due` leaves, the due ones in their order: the first free slots are theirs, the later ones are lost. -/
structure Reasserted (s t : State) (due : List (Fin 24)) : Prop where
  freeCount : t.freeCount = s.freeCount - min s.freeCount due.length
  poolEmpty : t.flags.poolEmpty = (s.flags.poolEmpty || decide (s.freeCount < due.length))
  missed : t.flags.missed = (s.flags.missed || decide (s.freeCount < due.length))
  others : ∀ i, i ∉ due → t.src i = s.src i
  queued : ∀ (k : Nat) (hk : k < due.length) (n : Fin 16), lineSource n = due[k] → k < s.freeCount →
    t.src due[k] = { s.src due[k] with queue := [s.reassertRecord n] }
  lost : ∀ (k : Nat) (hk : k < due.length), s.freeCount ≤ k → t.src due[k] = (s.src due[k]).lost

/-- Nothing due, nothing done. -/
theorem Reasserted.refl (s : State) : Reasserted s s [] where
  freeCount := by simp
  poolEmpty := by simp
  missed := by simp
  others _ _ := rfl
  queued _ hk := absurd hk (Nat.not_lt_zero _)
  lost _ hk := absurd hk (Nat.not_lt_zero _)

/-- A due source before the others: it takes a slot, or the pool is empty for all of them. -/
theorem Reasserted.cons {s t : State} {n : Fin 16} {due : List (Fin 24)} (hd : s.dueSource (lineSource n) = true)
    (hq : 1 ≤ (s.src (lineSource n)).quota) (hn : lineSource n ∉ due) (h : Reasserted (s.reassert n) t due) :
    Reasserted s t (lineSource n :: due) := by
  obtain ⟨ht, ha⟩ := State.dueSource_lineSource.mp hd
  have hframe := s.reassert_frame n
  have hrest : ∀ (k : Nat) (hk : k < due.length), (s.reassert n).src due[k] = s.src due[k] := fun k hk =>
    hframe.others _ fun he => hn (he ▸ List.getElem_mem hk)
  have hsame : t.src (lineSource n) = (s.reassert n).src (lineSource n) := h.others _ hn
  by_cases hf : s.freeCount = 0
  · have heq := State.reassert_lost ht ha hq hf
    have hfree : (s.reassert n).freeCount = 0 := by rw [heq]; simp [hf]
    constructor
    · rw [h.freeCount, hfree, hf]; simp
    · rw [h.poolEmpty, heq]; simp [State.absorb, hf]
    · rw [h.missed, heq]; simp [State.absorb, hf]
    · intro i hi
      rw [h.others i (List.not_mem_of_not_mem_cons hi), hframe.others i (List.ne_of_not_mem_cons hi)]
    · intro k hk m hm hlt
      omega
    · intro k hk hle
      cases k with
      | zero => rw [List.getElem_cons_zero, hsame, heq, State.absorb_src, if_pos rfl]
      | succ k =>
        have hk' : k < due.length := Nat.lt_of_succ_lt_succ hk
        rw [List.getElem_cons_succ, h.lost k hk' (by omega), hrest k hk']
  · have heq := State.reassert_queued ht ha hq hf
    have hfree : (s.reassert n).freeCount = s.freeCount - 1 := by rw [heq]; simp
    have hlen : decide ((s.reassert n).freeCount < due.length) = decide (s.freeCount < (lineSource n :: due).length) := by
      rw [decide_eq_decide, hfree, List.length_cons]; omega
    constructor
    · rw [h.freeCount, hfree, List.length_cons]; omega
    · rw [h.poolEmpty, hlen, heq]; simp [State.absorb]
    · rw [h.missed, hlen, heq]; simp [State.absorb]
    · intro i hi
      rw [h.others i (List.not_mem_of_not_mem_cons hi), hframe.others i (List.ne_of_not_mem_cons hi)]
    · intro k hk m hm hlt
      cases k with
      | zero =>
        rw [List.getElem_cons_zero, hsame, heq, State.absorb_src, if_pos rfl]
        rw [List.getElem_cons_zero] at hm
        rw [Fin.ext (Fin.mk.inj_iff.mp hm) (a := m) (b := n)]
      | succ k =>
        have hk' : k < due.length := Nat.lt_of_succ_lt_succ hk
        rw [List.getElem_cons_succ] at hm ⊢
        rw [h.queued k hk' m hm (by omega), hrest k hk', hframe.work.reassertRecord]
    · intro k hk hle
      cases k with
      | zero => omega
      | succ k =>
        have hk' : k < due.length := Nat.lt_of_succ_lt_succ hk
        rw [List.getElem_cons_succ, h.lost k hk' (by omega), hrest k hk']

/-- A run of occasions over different sources leaves what `Reasserted` says of the due ones (R55, R122). -/
theorem State.foldl_reassertSource_due {l : List (Fin 24)} (s : State) (hl : l.Nodup)
    (hq : ∀ i ∈ l, s.dueSource i = true → 1 ≤ (s.src i).quota) :
    Reasserted s (l.foldl State.reassertSource s) (l.filter s.dueSource) := by
  induction l generalizing s with
  | nil => exact Reasserted.refl s
  | cons i l ih =>
    obtain ⟨hi, hl⟩ := List.nodup_cons.mp hl
    have hne : ∀ j ∈ l, j ≠ i := fun j hj he => hi (he ▸ hj)
    rw [List.foldl_cons, List.filter_cons]
    cases hd : s.dueSource i with
    | false =>
      rw [State.reassertSource_of_not_due hd]
      exact ih s hl fun j hj => hq j (List.mem_cons_of_mem _ hj)
    | true =>
      have hstep := ih (s.reassertSource i) hl fun j hj hdj => by
        rw [State.reassertSource_dueSource (hne j hj)] at hdj
        rw [(s.reassertSource_frame i).others j (hne j hj)]
        exact hq j (List.mem_cons_of_mem _ hj) hdj
      rw [List.filter_congr fun j hj => State.reassertSource_dueSource (hne j hj)] at hstep
      obtain ⟨n, rfl⟩ := State.exists_line_of_due hd
      rw [State.reassertSource_lineSource] at hstep ⊢
      exact hstep.cons hd (hq _ List.mem_cons_self hd) fun hmem => hi (List.mem_of_mem_filter hmem)

/-- A run of occasions is within the frame of works. -/
theorem State.foldl_reassertSource_frame (l : List (Fin 24)) (s : State) : WorkFrame s (l.foldl State.reassertSource s) := by
  induction l generalizing s with
  | nil => exact WorkFrame.refl s
  | cons i l ih => exact (s.reassertSource_frame i).work.trans (ih _)

/-- A run of occasions is within the pool's frame. -/
theorem State.foldl_reassertSource_poolFrame (l : List (Fin 24)) (s : State) : PoolFrame s (l.foldl State.reassertSource s) := by
  induction l generalizing s with
  | nil => exact PoolFrame.of_eq rfl rfl rfl
  | cons i l ih => exact (s.reassertSource_poolFrame i).trans (ih _)

/-- A run of occasions keeps the records that are not due. -/
theorem State.foldl_reassertSource_src {l : List (Fin 24)} {s : State} {i : Fin 24} (h : i ∉ l ∨ s.dueSource i = false) :
    (l.foldl State.reassertSource s).src i = s.src i := by
  induction l generalizing s with
  | nil => rfl
  | cons j l ih =>
    rw [List.foldl_cons]
    by_cases hj : i = j
    · subst hj
      have hd : s.dueSource i = false := h.resolve_left fun hn => hn List.mem_cons_self
      rw [State.reassertSource_of_not_due hd]
      exact ih (.inr hd)
    · rw [ih, (s.reassertSource_frame j).others i hj]
      rw [State.reassertSource_dueSource hj]
      exact h.imp_left fun hn hm => hn (List.mem_cons_of_mem _ hm)

end Sys2Proof.Machine
end

section
/-! The end of a service (06, 5): END_SERVICE, UNWIND and CLEAR, and SRC_LINE with its occasion for re-assertion (03, 6): the statements about R53,
R55, R56, R57, R119, R121, R122 and R149. -/

namespace Sys2Proof.Machine

/-! ### A write with RESET_N not low -/

/-- With RESET_N not low every write has the effect of its register's write (R142). -/
theorem exec_write_high {s : State} (h : s.resetLow = false) (r : Reg) (b : Byte) :
    exec (r.writeCommand b) s = .next (s.undriven.windowWrite r b) := by
  rw [exec_writeCommand, unlessReset_high h]

/-- Works keep the event latch. -/
theorem WorkFrame.latch {s t : State} (h : WorkFrame s t) : t.latch = s.latch := by rw [h.rest]

/-! ### Lines and octets -/

/-- A line is active when it is seeded and its qualified level is the active level of its LEVEL mode (R54). -/
theorem Line.active_iff {l : Line} :
    l.active = true ↔ l.seeded = true ∧ ((l.mode = .levelHigh ∧ l.qual = true) ∨ (l.mode = .levelLow ∧ l.qual = false)) := by
  unfold Line.active
  cases hm : l.mode <;> simp

/-- Bit k of the raw word is the raw level of line k (R61). -/
theorem State.rawWord_getLsbD (s : State) (k : Fin 16) : s.rawWord.getLsbD k.val = s.lines[k].raw := by
  rw [BitVec.getLsbD_eq_getElem k.isLt, State.rawWord, BitVec.getElem_ofFnLE _ _ k.isLt]

/-- Bit k of the qualified word is the qualified level of line k (R61). -/
theorem State.qualWord_getLsbD (s : State) (k : Fin 16) : s.qualWord.getLsbD k.val = s.lines[k].qual := by
  rw [BitVec.getLsbD_eq_getElem k.isLt, State.qualWord, BitVec.getElem_ofFnLE _ _ k.isLt]

/-- Bit k of a line's octet is the qualified level of the octet's line k (R3). -/
theorem State.octet_getLsbD (s : State) (n : Fin 16) (k : Fin 8) :
    (s.octet n).getLsbD k.val = (s.lines[8 * (n.val / 8) + k.val]'(by omega)).qual := by
  have hword : ∀ m (hm : m < 16), s.qualWord.getLsbD m = s.lines[m].qual := fun m hm => s.qualWord_getLsbD ⟨m, hm⟩
  have hk := k.isLt
  unfold State.octet
  split
  · next hn =>
    have hdiv : n.val / 8 = 0 := by omega
    simp only [loByte, BitVec.getLsbD_extractLsb', hk, decide_true, Bool.true_and, hdiv]
    exact hword _ _
  · next hn =>
    have hdiv : n.val / 8 = 1 := by omega
    simp only [hiByte, BitVec.getLsbD_extractLsb', hk, decide_true, Bool.true_and, hdiv]
    exact hword _ _

/-- An octet reads the qualified levels alone. -/
theorem State.octet_congr {s t : State} (h : ∀ n : Fin 16, t.lines[n].qual = s.lines[n].qual) (n : Fin 16) : t.octet n = s.octet n := by
  have hword : t.qualWord = s.qualWord := by
    unfold State.qualWord
    exact congrArg _ (funext h)
  unfold State.octet
  rw [hword]

/-! ### The outcome of one occasion -/

/-- A slot taken lowers the free count and sets POOL_LOW at LOW_MARK (R5, R6). -/
theorem State.absorb_queued (s : State) (i : Fin 24) (q : Source) :
    s.absorb i ⟨q, true, false, false⟩ = { s.setSrc i q with
      freeCount := s.freeCount - 1, flags := { s.flags with poolLow := s.flags.poolLow || decide (s.freeCount = s.lowMark) } } := by
  simp [State.absorb]

/-- A loss at the empty pool sets POOL_EMPTY and MISSED (R7, R16). -/
theorem State.absorb_lost_slotless (s : State) (i : Fin 24) (q : Source) :
    s.absorb i ⟨q, false, true, true⟩ = { s.setSrc i q with flags := { s.flags with poolEmpty := true, missed := true } } := by
  simp [State.absorb]

/-! ### END_SERVICE -/

/-- Resuming as one record update (R121). -/
theorem Context.resume_eq (c : Context) : c.resume = { c with bstate := if c.bstate = .paused then .running else c.bstate } := by
  unfold Context.resume
  split <;> rfl

/-- With an empty stack END_SERVICE answers NO_CONTEXT (R119). -/
theorem State.endService_of_empty {s : State} (h : s.stack = []) (b : Byte) : s.endService b = s.answer .noContext := by
  simp [State.endService, h]

section
variable {s : State} {b : Byte} {c : Context} {rest : List Context} (h : s.stack = c :: rest)
include h

/-- An operand that names no source is answered BAD_SOURCE (R119). -/
theorem State.endService_of_no_source (hb : 24 ≤ b.toNat) : s.endService b = s.answer .badSource := by
  simp [State.endService, h, sourceOf_eq_none.mpr hb]

/-- The top's source is popped (R119). -/
theorem State.endService_of_top (hb : b.toNat = c.source.val) : s.endService b = s.pop.answer .ok := by
  simp [State.endService, h, sourceOf_eq_some.mpr hb]

/-- A source other than the top's is refused by its place on the stack (R119). -/
theorem State.endService_of_other (hb : b.toNat < 24) (hne : b.toNat ≠ c.source.val) :
    ((∃ d ∈ rest, d.source.val = b.toNat) → s.endService b = s.answer .outOfOrder) ∧
    ((∀ d ∈ rest, d.source.val ≠ b.toNat) → s.endService b = s.answer .notInService) := by
  have hsource : sourceOf b = some ⟨b.toNat, hb⟩ := sourceOf_eq_some.mpr rfl
  have htop : c.source ≠ ⟨b.toNat, hb⟩ := fun he => hne (congrArg Fin.val he).symm
  have hbelow : (rest.any fun d => d.source == (⟨b.toNat, hb⟩ : Fin 24)) = true ↔ ∃ d ∈ rest, d.source.val = b.toNat := by
    simp [Fin.ext_iff]
  have heq : s.endService b = if (rest.any fun d => d.source == (⟨b.toNat, hb⟩ : Fin 24)) = true then s.answer .outOfOrder
      else s.answer .notInService := by
    simp only [State.endService, h, hsource, htop, if_false]
  rw [heq]
  constructor
  · intro hex
    rw [if_pos (hbelow.mpr hex)]
  · intro hall
    rw [if_neg]
    intro hany
    obtain ⟨d, hd, he⟩ := hbelow.mp hany
    exact hall d hd he

/-- A pop of a source that is not due leaves the rest with its top resumed, and nothing else changed (R120, R121). -/
theorem State.pop_of_not_due (hd : { s with stack := rest }.dueSource c.source = false) :
    s.pop = { s with stack := onTop Context.resume rest } := by
  have hplace : { s with stack := onTop Context.resume rest }.dueSource c.source = { s with stack := rest }.dueSource c.source := by
    have hon : { s with stack := onTop Context.resume rest }.onStack c.source = { s with stack := rest }.onStack c.source :=
      State.onStack_congr (map_source_onTop Context.resume_source rest) _
    unfold State.dueSource
    rw [hon]
    rfl
  rw [State.pop_eq h]
  exact State.reassertSource_of_not_due (hplace.trans hd)

end

/-- Settles O25: the table of END_SERVICE, and the pop of a source whose re-assertion is not due. -/
theorem endServicePopsTheTopOrRefuses : Obligations.EndServicePopsTheTopOrRefuses := by
  intro s b hr
  have hexec : exec (.endService b) s = .next (s.undriven.endService b) := exec_write_high hr .endService b
  rw [hexec]
  refine ⟨fun hs => ?_, fun c rest hs => ⟨fun hb => ?_, fun hb hne hex => ?_, fun hb hne hall => ?_, fun hb hno => ?_⟩⟩
  · rw [State.endService_of_empty (s := s.undriven) hs]
    rfl
  · rw [State.endService_of_no_source (s := s.undriven) hs hb]
    rfl
  · rw [(State.endService_of_other (s := s.undriven) hs hb hne).1 hex]
    rfl
  · rw [(State.endService_of_other (s := s.undriven) hs hb hne).2 hall]
    rfl
  · have hnot : { s.undriven with stack := rest }.dueSource c.source = false := by
      refine Bool.eq_false_iff.mpr fun hd => ?_
      rw [State.dueSource, decide_eq_true_iff] at hd
      obtain ⟨-, hqueue, hstack, n, hn, hact⟩ := hd
      obtain ⟨hseeded, hlevel⟩ := Line.active_iff.mp hact
      have hbelow : ¬ ∃ d ∈ rest, d.source = c.source := fun ⟨d, hd, he⟩ => by
        have hon : { s.undriven with stack := rest }.onStack c.source = true := State.onStack_iff.mpr (List.mem_map.mpr ⟨d, hd, he⟩)
        exact Bool.false_ne_true (hstack.symm.trans hon)
      rcases hno n hn with ⟨hhigh, hlow⟩ | h | ⟨hm, hq⟩ | ⟨hm, hq⟩ | h | h
      · exact hlevel.elim (fun h => hhigh h.1) fun h => hlow h.1
      · exact Bool.false_ne_true (h.symm.trans hseeded)
      · rcases hlevel with ⟨-, hq'⟩ | ⟨hm', -⟩
        · exact Bool.false_ne_true (hq.symm.trans hq')
        · exact LineMode.noConfusion (hm.symm.trans hm')
      · rcases hlevel with ⟨hm', -⟩ | ⟨-, hq'⟩
        · exact LineMode.noConfusion (hm.symm.trans hm')
        · exact Bool.false_ne_true (hq'.symm.trans hq)
      · exact h hqueue
      · exact hbelow h
    rw [State.endService_of_top (s := s.undriven) hs hb, State.pop_of_not_due (s := s.undriven) hs hnot]
    cases rest with
    | nil => rfl
    | cons d below =>
      rw [onTop, Context.resume_eq]
      rfl

/-- Settles O26: the re-assertion of the popped source, by ADMIT and the pool. -/
theorem popReassertsAnActiveLevelSource : Obligations.PopReassertsAnActiveLevelSource := by
  intro s b c rest n hr hs hb hn hseeded hlevel hempty hrest
  obtain ⟨i, hi⟩ : ∃ i, lineSource n = i := ⟨_, rfl⟩
  have hci : c.source = i := (Fin.ext hn.symm).trans hi
  let u : State := { s.undriven with stack := onTop Context.resume rest }
  have hexec : exec (.endService b) s = .next ((u.reassert n).answer .ok) := by
    have h := exec_write_high hr .endService b
    have heq : s.undriven.windowWrite .endService b = s.undriven.pop.answer .ok := State.endService_of_top (s := s.undriven) hs hb
    rw [heq, State.pop_eq (s := s.undriven) hs, hci, ← hi, State.reassertSource_lineSource] at h
    exact h
  have hoff : u.onStack (lineSource n) = false := by
    rw [Bool.eq_false_iff, Ne, State.onStack_iff]
    change ¬ lineSource n ∈ (onTop Context.resume rest).map Context.source
    rw [map_source_onTop Context.resume_source, List.mem_map]
    rintro ⟨d, hd, he⟩
    exact hrest d hd (he.trans (hi.trans hci.symm))
  rw [hci] at hempty ⊢
  rw [← hi] at hempty ⊢
  have hdue : u.reassertable n = true := State.reassertable_iff.mpr ⟨Line.active_iff.mpr ⟨hseeded, hlevel⟩, hempty, hoff⟩
  have hframe := (u.reassert_frame n)
  refine ⟨_, hexec, rfl, ?_, hframe.work.lines, hframe.work.latch, hframe.others, fun ha hq hf => ?_, fun ha => ?_,
    fun ha hq hf => ?_⟩
  · refine hframe.work.stack.trans ?_
    cases rest with
    | nil => rfl
    | cons d below => exact congrArg (· :: below) d.resume_eq
  · have hfree : u.freeCount ≠ 0 := by change s.freeCount ≠ 0; omega
    have heq := State.reassert_queued hdue ha hq hfree
    have hqueue : (u.reassert n).src (lineSource n) = { s.src (lineSource n) with queue := [u.reassertRecord n] } := by
      rw [heq, State.absorb_src, if_pos rfl]
      rfl
    refine ⟨⟨u.reassertRecord n, congrArg Source.queue hqueue, rfl, rfl, rfl, fun k => State.octet_getLsbD u n k⟩, ?_, ?_, ?_, ?_⟩
    · have hon : (u.reassert n).onStack (lineSource n) = false := (hframe.work.onStack _).trans hoff
      refine (State.sourceState_of_not_onStack hon).trans ?_
      rw [hqueue]
      rfl
    · rw [heq]
      rfl
    · exact (congrArg Source.missed hqueue :)
    · rw [heq, State.absorb_queued]
      rfl
  · rw [State.reassert_off (s := u) ha]
    exact ⟨rfl, rfl, rfl⟩
  · have heq := State.reassert_lost hdue ha hq hf
    have hsource : (u.reassert n).src (lineSource n) = (s.src (lineSource n)).lost := by
      rw [heq, State.absorb_src, if_pos rfl]
      rfl
    refine ⟨(congrArg Source.queue hsource).trans hempty, congrArg Source.missed hsource, ?_, ?_⟩
    · rw [heq, State.absorb_lost_slotless]
      rfl
    · rw [heq]
      exact (Nat.sub_zero _).trans hf

/-! ### UNWIND -/

/-- A pop of a source that is on no context below is the occasion of its source on the stack's rest. -/
theorem State.pop_withoutStack {s : State} {c : Context} {rest : List Context} (h : s.stack = c :: rest)
    (hc : c.source ∉ rest.map Context.source) :
    { s.pop with stack := [] } = { s with stack := [] }.reassertSource c.source := by
  have hoff : { s with stack := onTop Context.resume rest }.onStack c.source = false := by
    rw [Bool.eq_false_iff, Ne, State.onStack_iff]
    change c.source ∉ (onTop Context.resume rest).map Context.source
    rwa [map_source_onTop Context.resume_source]
  rw [State.pop_eq h]
  cases hl : lineOf c.source with
  | none => simp [State.reassertSource, hl]
  | some n =>
    rw [lineOf_eq_some.mp hl, State.reassertSource_lineSource, State.reassertSource_lineSource]
    rw [lineOf_eq_some.mp hl] at hoff
    exact (State.reassert_withStack (s := { s with stack := onTop Context.resume rest }) (l := []) hoff.symm).symm

/-- Popping every context of a stack of different sources is the run of their occasions, in pop order (R122). -/
theorem State.popMany_eq {l : List Context} {s : State} (h : s.stack.map Context.source = l.map Context.source)
    (hl : (l.map Context.source).Nodup) :
    { State.popMany l.length s with stack := [] } = (l.map Context.source).foldl State.reassertSource { s with stack := [] } ∧
      (State.popMany l.length s).stack = [] := by
  induction l generalizing s with
  | nil => exact ⟨rfl, List.map_eq_nil_iff.mp h⟩
  | cons c l ih =>
    obtain ⟨d, rest, hs, hd, hrest⟩ := List.map_eq_cons_iff.mp h
    obtain ⟨hc, hl⟩ := List.nodup_cons.mp hl
    have hpop : s.pop.stack.map Context.source = l.map Context.source := by
      rw [s.pop_frame.2, hs, List.tail_cons, map_source_onTop Context.resume_source]
      exact hrest
    obtain ⟨hrun, hempty⟩ := ih hpop hl
    refine ⟨hrun.trans ?_, hempty⟩
    rw [List.map_cons, List.foldl_cons, ← hd]
    refine congrArg (List.foldl State.reassertSource · _) (State.pop_withoutStack hs ?_)
    rw [hrest, hd]
    exact hc

/-- UNWIND on a stack of different sources is the run of their occasions on the empty stack (R122). -/
theorem State.unwind_eq {s : State} (h : s.stack ≠ []) (hs : (s.stack.map Context.source).Nodup) :
    s.unwind = ((s.stack.map Context.source).foldl State.reassertSource { s with stack := [] }).answer .ok := by
  obtain ⟨hrun, hempty⟩ := State.popMany_eq (s := s) rfl hs
  have hsame : State.popMany s.stack.length s = { State.popMany s.stack.length s with stack := [] } := by
    rw [← hempty]
  unfold State.unwind
  rw [if_neg (by simpa using h), hsame, hrun]

/-- With an empty stack UNWIND answers NO_CONTEXT (R122). -/
theorem State.unwind_of_empty {s : State} (h : s.stack = []) : s.unwind = s.answer .noContext := by
  simp [State.unwind, h]

/-- On the empty stack what is due is a matter of ADMIT, the queue and the line. -/
theorem State.dueSource_of_empty {s : State} (h : s.stack = []) (i : Fin 24) :
    s.dueSource i = decide ((s.src i).admitOn = true ∧ (s.src i).queue = [] ∧ ∃ n : Fin 16, n.val = i.val ∧ s.lines[n].active = true) := by
  have hoff : s.onStack i = false := by simp [State.onStack, h]
  simp [State.dueSource, hoff]

/-- What a run of occasions leaves of the flags, with POOL_LOW set by the crossing of LOW_MARK (R6, R7). -/
theorem Reasserted.flags {s t : State} {due : List (Fin 24)} (h : Reasserted s t due) (hw : WorkFrame s t) (hp : PoolFrame s t) :
    t.flags = { s.flags with
      poolLow := s.flags.poolLow || decide (t.freeCount < s.lowMark ∧ s.lowMark ≤ s.freeCount)
      poolEmpty := s.flags.poolEmpty || decide (s.freeCount < due.length)
      missed := s.flags.missed || decide (s.freeCount < due.length) } := by
  have hlow : t.flags.poolLow = (s.flags.poolLow || decide (t.freeCount < s.lowMark ∧ s.lowMark ≤ s.freeCount)) := by
    rw [Bool.eq_iff_iff, Bool.or_eq_true, decide_eq_true_iff]
    exact hp.poolLow
  calc t.flags = ⟨t.flags.budget, t.flags.poolLow, t.flags.poolEmpty, t.flags.missed⟩ := rfl
    _ = _ := by rw [hw.budgetFlag, hlow, h.poolEmpty, h.missed]

/-- Works and an answer keep every setting but CMD_STATUS. -/
theorem WorkFrame.settings_answer {s t : State} (h : WorkFrame s t) (a : Answer) :
    { t.answer a with cmdStatus := s.cmdStatus }.settings = s.settings := by
  rw [h.rest]
  rfl

/-- Settles O27: UNWIND is the run of the occasions of the stack's sources on the empty stack. -/
theorem unwindEndsEveryService : Obligations.UnwindEndsEveryService := by
  intro s b hr
  have hexec : exec (.unwind b) s = .next s.undriven.unwind := exec_write_high hr .unwind b
  rw [hexec]
  refine ⟨fun hs => ?_, fun hs hnodup => ?_⟩
  · rw [State.unwind_of_empty (s := s.undriven) hs]
    rfl
  · have hunwind := State.unwind_eq (s := s.undriven) hs hnodup
    let u : State := { s.undriven with stack := [] }
    have hframe : WorkFrame u ((s.stack.map Context.source).foldl State.reassertSource u) := State.foldl_reassertSource_frame _ u
    have hpool : PoolFrame u ((s.stack.map Context.source).foldl State.reassertSource u) := State.foldl_reassertSource_poolFrame _ u
    have hdue : ∀ i, u.dueSource i = decide ((s.src i).admitOn = true ∧ (s.src i).queue = [] ∧
        ∃ n : Fin 16, n.val = i.val ∧ s.lines[n].active = true) := fun i => State.dueSource_of_empty rfl i
    refine ⟨_, congrArg _ hunwind, hframe.stack, rfl, hframe.dataOut, ?_, hframe.lines, hframe.timers, hframe.timestamp, hframe.agingCount,
      hframe.alertSource, fun i hi => ?_, fun hquota => ?_⟩
    · exact hframe.settings_answer .ok
    · refine State.foldl_reassertSource_src (s := u) (hi.imp (fun hoff hmem => ?_) fun hnot => ?_)
      · exact Bool.false_ne_true (hoff.symm.trans (State.onStack_iff.mpr hmem))
      · rw [hdue, decide_eq_false_iff_not]
        rintro ⟨ha, hq, n, hn, hact⟩
        rcases hnot with h | h | h
        · exact Bool.false_ne_true (h.symm.trans ha)
        · exact h hq
        · exact Bool.false_ne_true ((h n hn).symm.trans hact)
    · intro due
      have hmap : (s.stack.map Context.source).filter u.dueSource = due.map Context.source := by
        rw [List.filter_map]
        exact congrArg _ (List.filter_congr fun c _ => hdue c.source)
      have hrun := State.foldl_reassertSource_due u hnodup fun i hi _ => by
        obtain ⟨c, hc, rfl⟩ := List.mem_map.mp hi
        exact hquota c hc
      rw [hmap] at hrun
      have hlen : (due.map Context.source).length = due.length := List.length_map _
      have hlt : ∀ k : Fin due.length, k.val < (due.map Context.source).length := fun k => hlen.symm ▸ k.isLt
      have hget : ∀ k : Fin due.length, (due.map Context.source)[k.val]'(hlt k) = due[k].source := fun k => List.getElem_map _
      refine ⟨?_, ?_, fun k n hn => ⟨fun hk => ?_, fun hk => ?_⟩⟩
      · exact hlen ▸ hrun.freeCount
      · exact hlen ▸ hrun.flags hframe hpool
      · have h := hrun.queued k.val (hlt k) n (by rw [hget]; exact Fin.ext hn) hk
        rw [hget] at h
        refine h.trans ?_
        rw [show due[k].source = lineSource n from Fin.ext hn.symm]
        rfl
      · have h := hrun.lost k.val (hlt k) hk
        rw [hget] at h
        exact h

end Sys2Proof.Machine
end

section
/-! CLEAR, and SRC_LINE with its occasion for re-assertion (03, 5 and 6; 08, 3.4): the statements about R39, R50, R53, R57, R58 and R149. -/

namespace Sys2Proof.Machine

/-! ### CLEAR -/

/-- The lines' sources are different. -/
theorem lineSource_injective : Function.Injective lineSource := fun _ _ h => Fin.ext (Fin.mk.inj_iff.mp h)

/-- The run of CLEAR is the run of occasions over the line sources in ascending order (R57). -/
theorem State.foldl_reassert_eq (l : List (Fin 16)) (s : State) :
    l.foldl State.reassert s = (l.map lineSource).foldl State.reassertSource s := by
  rw [List.foldl_map]
  exact congrArg (fun f => List.foldl f s l) (funext fun t => funext fun n => (t.reassertSource_lineSource n).symm)

/-- The line sources in ascending order are different. -/
theorem lineSources_nodup : (allLines.map lineSource).Nodup := (List.nodup_finRange 16).map lineSource_injective

/-- A source is a line source exactly when its number is below 16 (R23). -/
theorem mem_lineSources {i : Fin 24} : i ∈ allLines.map lineSource ↔ i.val < 16 := by
  constructor
  · intro h
    obtain ⟨n, -, rfl⟩ := List.mem_map.mp h
    exact n.isLt
  · intro h
    exact List.mem_map.mpr ⟨⟨i.val, h⟩, List.mem_finRange _, rfl⟩

/-- What CLEAR leaves of a record but for the re-assertions (R149). -/
theorem State.clearWork_due {s : State} {n : Fin 16} :
    s.clearWork.dueSource (lineSource n) = true ↔ s.lines[n].active = true ∧ (s.src (lineSource n)).admitOn = true := by
  rw [State.dueSource_of_empty rfl, decide_eq_true_iff, State.clearWork_src]
  constructor
  · rintro ⟨ha, -, m, hm, hact⟩
    rw [Fin.ext hm] at hact
    exact ⟨hact, ha⟩
  · rintro ⟨hact, ha⟩
    exact ⟨ha, rfl, n, rfl, hact⟩

/-- The run of CLEAR's occasions (R57). -/
@[irreducible] def State.clearRun (s : State) : State := allLines.foldl State.reassert s.clearWork

/-- CLEAR's run leaves what `Reasserted` says of the due line sources. -/
theorem State.clearRun_reasserted {s : State} (hs : s.SourcesInRange) :
    Reasserted s.clearWork s.clearRun ((allLines.map lineSource).filter s.clearWork.dueSource) := by
  unfold State.clearRun
  rw [State.foldl_reassert_eq]
  refine State.foldl_reassertSource_due _ lineSources_nodup fun i _ _ => ?_
  obtain ⟨-, -, hquota, -⟩ := hs i
  rw [State.clearWork_src]
  exact hquota

/-- At most 16 re-assertions are due at CLEAR, so that each finds a slot. -/
theorem State.clearRun_due_length (s : State) : ((allLines.map lineSource).filter s.clearWork.dueSource).length ≤ 16 :=
  (List.length_filter_le _ _).trans (by simp [allLines])

/-- CLEAR's run is within the frame of works. -/
theorem State.clearRun_frame (s : State) : WorkFrame s.clearWork s.clearRun := by
  unfold State.clearRun
  exact State.foldl_reassert_frame allLines _

/-- CLEAR's run is within the pool's frame. -/
theorem State.clearRun_poolFrame (s : State) : PoolFrame s.clearWork s.clearRun := by
  unfold State.clearRun
  rw [State.foldl_reassert_eq]
  exact State.foldl_reassertSource_poolFrame _ _

/-- After CLEAR's run a due line source holds its re-assertion's record (R57). -/
theorem State.clearRun_src_due {s : State} (hs : s.SourcesInRange) {n : Fin 16} (h : s.clearWork.dueSource (lineSource n) = true) :
    s.clearRun.src (lineSource n) = { s.clearWork.src (lineSource n) with queue := [s.clearWork.reassertRecord n] } := by
  have hmem : lineSource n ∈ (allLines.map lineSource).filter s.clearWork.dueSource :=
    List.mem_filter.mpr ⟨mem_lineSources.mpr n.isLt, h⟩
  obtain ⟨k, hk, hget⟩ := List.getElem_of_mem hmem
  have hfree : k < s.clearWork.freeCount := by
    have hlen := s.clearRun_due_length
    change k < 64
    omega
  have hqueued := (State.clearRun_reasserted hs).queued k hk n hget.symm hfree
  rw [hget] at hqueued
  exact hqueued

/-- After CLEAR's run a source that was not due holds the cleared record. -/
theorem State.clearRun_src_of_not_due {s : State} {i : Fin 24} (h : s.clearWork.dueSource i = false) :
    s.clearRun.src i = s.clearWork.src i := by
  unfold State.clearRun
  rw [State.foldl_reassert_eq]
  exact State.foldl_reassertSource_src (.inr h)

/-- CLEAR's run touches no record but its queue. -/
theorem State.clearRun_src {s : State} (hs : s.SourcesInRange) (i : Fin 24) :
    s.clearRun.src i = { s.clearWork.src i with queue := (s.clearRun.src i).queue } := by
  cases hd : s.clearWork.dueSource i with
  | true =>
    obtain ⟨n, rfl⟩ := State.exists_line_of_due hd
    rw [State.clearRun_src_due hs hd]
  | false => rw [State.clearRun_src_of_not_due hd]

/-- CLEAR's run leaves the pool balanced (R4). -/
theorem State.clearRun_poolBalanced {s : State} (hs : s.SourcesInRange) : s.clearRun.PoolBalanced := by
  have hwork : s.clearWork.SourcesInRange ∧ s.clearWork.PoolBalanced :=
    ⟨Move.keeps_sourcesInRange s _ .clear hs, s.clearWork_poolBalanced⟩
  have hrun : Moves s.clearWork s.clearRun := by
    unfold State.clearRun
    exact State.foldl_reassert_moves allLines s.clearWork
  exact (hrun.keeps Move.keeps_poolBalanced hwork).2

/-- CLEAR's run leaves POOL_LOW alone set, by the free count it ends with (R149, R6). -/
theorem State.clearRun_flags {s : State} (hs : s.SourcesInRange) (hmark : s.lowMark ≤ 63) :
    s.clearRun.flags = { budget := false, poolLow := decide (s.clearRun.freeCount < s.lowMark), poolEmpty := false, missed := false } := by
  have hlow : decide (s.clearRun.freeCount < s.clearWork.lowMark ∧ s.clearWork.lowMark ≤ s.clearWork.freeCount) =
      decide (s.clearRun.freeCount < s.lowMark) := by
    rw [decide_eq_decide]
    exact and_iff_left (show s.lowMark ≤ 64 by omega)
  have hnone : decide (s.clearWork.freeCount < ((allLines.map lineSource).filter s.clearWork.dueSource).length) = false := by
    have hlen := s.clearRun_due_length
    rw [decide_eq_false_iff_not]
    change ¬ 64 < _
    omega
  rw [(State.clearRun_reasserted hs).flags s.clearRun_frame s.clearRun_poolFrame, hlow, hnone]
  rfl

/-- CLEAR and its answer keep every setting but the latch and CMD_STATUS. -/
theorem WorkFrame.settings_clear {s t : State} (h : WorkFrame s.clearWork t) :
    { t.answer .ok with latch := s.latch, cmdStatus := s.cmdStatus }.settings = s.settings := by
  rw [h.rest]
  rfl

/-- Settles O29: the cleared state, and the run of the occasions of the lines on it. -/
theorem clearEmptiesThePartAndReasserts : Obligations.ClearEmptiesThePartAndReasserts := by
  intro s b hr hs hmark
  have hexec : exec (.clear b) s = .next (s.undriven.clearRun.answer .ok) := by
    unfold State.clearRun
    exact exec_write_high hr .clear b
  have hrange : s.undriven.SourcesInRange := hs
  have hframe := s.undriven.clearRun_frame
  have hlatch : s.undriven.clearRun.latch = EventLatch.reset := hframe.latch
  have hwork : ∀ i, s.undriven.clearWork.src i = { (s.src i).emptied with missed := 0 } := fun i => State.clearWork_src _ i
  refine ⟨_, hexec, hframe.dataOut, rfl, hframe.stack, hlatch, fun i => ?_, fun n => ?_, fun i hi => ?_, ?_, ?_, hframe.settings_clear,
    hframe.lines, hframe.timers, hframe.timestamp, hframe.clkCount, hframe.intervalDivider, hframe.agingCount, hframe.alertSource⟩
  · rw [State.answer_src, State.clearRun_src hrange i, hwork]
    exact ⟨rfl, rfl, rfl⟩
  · rw [State.answer_src]
    split
    · next h =>
      rw [State.clearRun_src_due hrange (State.clearWork_due.mpr h)]
      rfl
    · next h =>
      rw [State.clearRun_src_of_not_due (s := s.undriven) (Bool.eq_false_iff.mpr fun hd => h (State.clearWork_due.mp hd)), hwork]
      rfl
  · rw [State.answer_src, State.clearRun_src_of_not_due, hwork]
    · rfl
    · refine Bool.eq_false_iff.mpr fun hd => ?_
      obtain ⟨n, rfl⟩ := State.exists_line_of_due hd
      exact absurd n.isLt (Nat.not_lt.mpr hi)
  · exact State.clearRun_poolBalanced hrange
  · exact State.clearRun_flags hrange hmark

/-! ### SRC_LINE -/

/-- A field of a written byte, as the number it holds. -/
theorem extractLsb'_eq_iff {b : Byte} {p l k : Nat} (hk : k < 2 ^ l) : b.extractLsb' p l = BitVec.ofNat l k ↔ b.toNat / 2 ^ p % 2 ^ l = k := by
  rw [← BitVec.toNat_inj, BitVec.extractLsb'_toNat, BitVec.toNat_ofNat, Nat.mod_eq_of_lt hk, Nat.shiftRight_eq_div_pow]

/-- SRC_LINE's mode by bits 2:0 as a number (R51, R153). -/
theorem lineModeOfByte_eq (b : Byte) : lineModeOfByte b =
    if b.toNat % 8 = 1 then .rise else if b.toNat % 8 = 2 then .fall else if b.toNat % 8 = 3 then .both
    else if b.toNat % 8 = 4 then .levelHigh else if b.toNat % 8 = 5 then .levelLow else .off := by
  have hfield : ∀ k, k < 8 → (b.extractLsb' 0 3 = BitVec.ofNat 3 k ↔ b.toNat % 8 = k) := fun k hk => by
    rw [extractLsb'_eq_iff hk]
    simp
  unfold lineModeOfByte
  simp only [hfield 1 (by omega), hfield 2 (by omega), hfield 3 (by omega), hfield 4 (by omega), hfield 5 (by omega)]

/-- SRC_LINE's filter count by bits 7:4 as a number (R50). -/
theorem filterOfByte_eq (b : Byte) : filterOfByte b = if b.toNat / 16 = 0 then 1 else b.toNat / 16 := by
  have hb := b.isLt
  have hfield : (b.extractLsb' 4 4).toNat = b.toNat / 16 := by
    rw [BitVec.extractLsb'_toNat, Nat.shiftRight_eq_div_pow]
    omega
  unfold filterOfByte
  rw [hfield]
  split <;> omega

/-- A mode is a LEVEL mode when it is one of the two (R54). -/
theorem LineMode.isLevel_iff {m : LineMode} : m.isLevel = true ↔ m = .levelHigh ∨ m = .levelLow := by
  cases m <;> simp [LineMode.isLevel]

/-- A selector byte reaches line `n` exactly when it is `n`'s number (R39). -/
theorem bind_lineOf_eq_some {b : Byte} {n : Fin 16} (h : b.toNat = n.val) : (sourceOf b).bind lineOf = some n := by
  rw [sourceOf_eq_some.mpr (show b.toNat = (lineSource n).val from h), Option.bind_some]
  exact lineOf_eq_some.mpr rfl

/-- A selector byte of 16 to 255 reaches no line (R39). -/
theorem bind_lineOf_eq_none {b : Byte} (h : 16 ≤ b.toNat) : (sourceOf b).bind lineOf = none := by
  rw [Option.bind_eq_none_iff]
  intro i hi
  rw [lineOf_eq_none, ← sourceOf_eq_some.mp hi]
  exact h

/-- SRC_LINE reaches the line that SRC_SEL selects (R39). -/
theorem State.writeSrcLine_of_line {s : State} {n : Fin 16} (h : s.srcSel.toNat = n.val) (b : Byte) :
    s.writeSrcLine b = s.writeLine n b := by
  simp only [State.writeSrcLine, bind_lineOf_eq_some h]

/-- SRC_LINE is ignored while SRC_SEL selects no line source (R39). -/
theorem State.writeSrcLine_of_no_line {s : State} (h : 16 ≤ s.srcSel.toNat) (b : Byte) : s.writeSrcLine b = s := by
  simp only [State.writeSrcLine, bind_lineOf_eq_none h]

/-- SRC_LINE is the occasion of its line, or the store alone (R53, R58). -/
theorem State.writeLine_cases (s : State) (n : Fin 16) (b : Byte) :
    (lineModeOfByte b ≠ s.lines[n].mode ∧ (lineModeOfByte b).isLevel = true → s.writeLine n b = (s.setLineCfg n b).reassert n) ∧
    (¬ (lineModeOfByte b ≠ s.lines[n].mode ∧ (lineModeOfByte b).isLevel = true) → s.writeLine n b = s.setLineCfg n b) :=
  ⟨fun h => if_pos h, fun h => if_neg h⟩

/-- A write of mode and filter count keeps every octet. -/
theorem State.setLineCfg_octet (s : State) (n m : Fin 16) (b : Byte) : (s.setLineCfg n b).octet m = s.octet m := by
  refine State.octet_congr (fun k => ?_) m
  by_cases hk : n.val = k.val
  · obtain rfl := Fin.ext hk
    simp
  · simp [hk]

/-- Settles O43: the store, and the occasion of its line when the mode becomes another LEVEL mode. -/
theorem srcLineSetsModeAndFilterAndMayReassert : Obligations.SrcLineSetsModeAndFilterAndMayReassert := by
  intro s b hr
  have hexec : exec (.srcLine b) s = .next (s.undriven.writeSrcLine b) := exec_write_high hr .srcLine b
  rw [hexec]
  refine ⟨fun n hn => ?_, fun h => congrArg _ (State.writeSrcLine_of_no_line (s := s.undriven) h b)⟩
  intro m f i s1
  have hm : m = lineModeOfByte b := by
    simp only [m, lineModeOfByte_eq]
    split <;> simp_all
  have hf : f = filterOfByte b := (filterOfByte_eq b).symm
  have hs1 : s1 = s.undriven.setLineCfg n b := by
    simp only [s1, hm, hf]
    rfl
  rw [State.writeSrcLine_of_line (s := s.undriven) hn b]
  obtain ⟨hoccasion, hstore⟩ := s.undriven.writeLine_cases n b
  rw [hs1]
  have hoct : (s.undriven.setLineCfg n b).reassertRecord n = { source := i, kind := .level, stamp := s.timestamp, datum := s.octet n } := by
    unfold State.reassertRecord
    rw [State.setLineCfg_octet]
    rfl
  constructor
  · intro hnot
    refine congrArg _ ?_
    by_cases hdue : lineModeOfByte b ≠ s.lines[n].mode ∧ (lineModeOfByte b).isLevel = true
    · rw [hoccasion hdue]
      refine State.reassert_of_not (Bool.eq_false_iff.mpr fun ht => ?_)
      obtain ⟨hact, hqueue, hstack⟩ := State.reassertable_iff.mp ht
      rcases hnot with h | ⟨hhigh, hlow⟩ | h | h | h
      · exact hdue.1 (hm.symm.trans h)
      · rw [← hm] at hdue
        exact (LineMode.isLevel_iff.mp hdue.2).elim hhigh hlow
      · exact Bool.false_ne_true (h.symm.trans hact)
      · exact h hqueue
      · exact Bool.false_ne_true (hstack.symm.trans h)
    · exact hstore hdue
  · intro hne hlevel hact hqueue hstack
    have ht : (s.undriven.setLineCfg n b).reassertable n = true := State.reassertable_iff.mpr ⟨hact, hqueue, hstack⟩
    rw [hoccasion ⟨hm ▸ hne, LineMode.isLevel_iff.mpr (hm ▸ hlevel)⟩]
    refine ⟨fun ha => ?_, fun ha hq hf => ?_, fun ha hq hf => ?_⟩
    · rw [State.reassert_off (s := s.undriven.setLineCfg n b) ha]
    · rw [State.reassert_queued ht ha hq (by change s.freeCount ≠ 0; omega), hoct, State.absorb_queued]
      rfl
    · rw [State.reassert_lost ht ha hq hf, State.absorb_lost_slotless]
      rfl

end Sys2Proof.Machine
end

section
/-! Arbitration, grants and takes that find something (05; 06, 3 and 4): the statements about R83, R94, R95, R96, R108, R109, R115 and R116. -/

namespace Sys2Proof.Machine

/-! ### Bids -/

/-- Settles O16: the bid is its sum, which stays within 32 numbers of its class. -/
theorem bidsLieInTheRangeOfTheirClass : Obligations.BidsLieInTheRangeOfTheirClass := by
  intro s hs i j
  obtain ⟨hlow, hhigh⟩ := State.bidOf_bounds hs i
  obtain ⟨-, hhigh'⟩ := State.bidOf_bounds hs j
  obtain ⟨-, hdepth, -⟩ := hs i
  have hcls := (s.src i).cls.isLt
  have hbid : s.bidOf i = 32 * (s.src i).cls.toNat + (s.src i).depthBonus + (s.src i).credits := rfl
  refine ⟨?_, hlow, hhigh, by omega, fun h => by omega, fun hi => ?_⟩
  · rw [hbid, Source.depthBonus]
    congr 2
    cases hq : (s.src i).queue <;> simp
  · have hle := hdepth hi
    have hnone : (s.src i).depthBonus = 0 := by
      unfold Source.depthBonus
      split <;> omega
    omega

/-! ### The grant condition -/

/-- On an empty stack a winner is granted exactly when its bid is at least FLOOR (R94). -/
theorem State.canGrant_iff_of_empty {s : State} (hs : s.stack = []) (w : Fin 24) : s.canGrant w = true ↔ s.floor.toNat ≤ s.bidOf w := by
  rw [← Bool.not_eq_false, State.canGrant_eq_false_iff_of_empty hs, Nat.not_lt]

/-- Above a top context a winner is granted exactly below the depth limit, for a class above the top's held class (R94). -/
theorem State.canGrant_iff_of_top {s : State} {c : Context} {rest : List Context} (hs : s.stack = c :: rest) (w : Fin 24) :
    s.canGrant w = true ↔ s.stack.length ≤ 5 ∧ c.heldClass.toNat < (s.src w).cls.toNat := by
  rw [← Bool.not_eq_false, State.canGrant_eq_false_iff_of_top hs]
  omega

/-- With a winner the grant condition is the winner's (R94). -/
theorem State.grantCondition_of_winner {s : State} {w : Fin 24} (hw : s.winner = some w) : s.grantCondition = s.canGrant w := by
  simp [State.grantCondition, hw]

/-- The test of the grant condition's row for one source (R94). -/
def State.Passes (s : State) (i : Fin 24) : Prop :=
  (s.stack = [] ∧ s.floor.toNat ≤ s.bidOf i) ∨
  ∃ (c : Context) (rest : List Context), s.stack = c :: rest ∧ s.stack.length ≤ 5 ∧ c.heldClass.toNat < (s.src i).cls.toNat

/-- A winner is granted exactly when it passes the test of its row. -/
theorem State.canGrant_iff_passes {s : State} {w : Fin 24} : s.canGrant w = true ↔ s.Passes w := by
  unfold State.Passes
  cases hs : s.stack with
  | nil => simp [State.canGrant_iff_of_empty hs]
  | cons c rest => simp [State.canGrant_iff_of_top hs, hs]

/-- Where the records are in range the winner passes whenever another eligible source does. -/
theorem State.Passes.winner {s : State} (hs : s.SourcesInRange) {i w : Fin 24} (hi : s.Passes i) (he : s.eligible i = true)
    (hw : s.winner = some w) : s.Passes w := by
  have hbid := State.bidOf_le_of_winner hw he
  have hcls := State.cls_le_of_bidOf_le hs hbid
  rcases hi with ⟨hempty, hfloor⟩ | ⟨c, rest, htop, hdepth, hheld⟩
  · exact .inl ⟨hempty, hfloor.trans hbid⟩
  · exact .inr ⟨c, rest, htop, hdepth, hheld.trans_le hcls⟩

/-- Where the records are in range the grant condition is that some eligible source passes (R94). -/
theorem State.grantCondition_iff {s : State} (hs : s.SourcesInRange) :
    s.grantCondition = true ↔ ∃ i, s.eligible i = true ∧ s.Passes i := by
  cases hw : s.winner with
  | none =>
    rw [State.grantCondition_eq_false_iff.mpr (.inl hw)]
    refine ⟨fun h => absurd h (by simp), fun ⟨i, he, _⟩ => ?_⟩
    exact absurd (he.symm.trans (State.ineligible_of_no_winner hw i)) (by simp)
  | some w =>
    rw [State.grantCondition_of_winner hw, State.canGrant_iff_passes]
    exact ⟨fun h => ⟨w, (State.bestOf_of_winner hw).eligible, h⟩, fun ⟨i, he, hi⟩ => hi.winner hs he hw⟩

/-- Settles O18: the rows of the grant condition, and the winner passing for every eligible source. -/
theorem grantConditionByStackDepth : Obligations.GrantConditionByStackDepth := by
  intro s
  refine ⟨fun hw => State.grantCondition_eq_false_iff.mpr (.inl hw), fun w hw => ?_, State.grantCondition_iff, ?_⟩
  · rw [State.grantCondition_of_winner hw]
    refine ⟨fun hs => State.canGrant_iff_of_empty hs w, fun c rest hs hdepth => ?_, fun hdeep => ?_⟩
    · rw [State.canGrant_iff_of_top hs]
      exact and_iff_right hdepth
    · cases hs : s.stack with
      | nil => simp [hs] at hdeep
      | cons c rest => exact (State.canGrant_eq_false_iff_of_top hs w).mpr (.inl hdeep)
  · simp [State.reqAsserted]

/-! ### The push -/

/-- A push clears the winner's credits and touches no other record (R90, R108). -/
theorem State.push_src (s : State) (w i : Fin 24) : (s.push w).src i = if i = w then { s.src w with credits := 0 } else s.src i :=
  State.src_setSrc _ w i _

/-- After a push the eligible sources were eligible before it. -/
theorem State.eligible_of_push {s : State} {w i : Fin 24} (h : (s.push w).eligible i = true) : s.eligible i = true := by
  obtain ⟨hbid, hqueue, hstack⟩ := State.eligible_iff.mp h
  have hne : i ≠ w := by
    rintro rfl
    have hon : (s.push i).onStack i = true := State.onStack_iff.mpr (by simp)
    exact Bool.false_ne_true (hstack.symm.trans hon)
  rw [State.push_src, if_neg hne] at hbid hqueue
  refine State.eligible_iff.mpr ⟨hbid, hqueue, Bool.eq_false_iff.mpr fun hon => ?_⟩
  have hon' : (s.push w).onStack i = true := by
    rw [State.onStack_iff] at hon ⊢
    rw [State.push_stack, List.map_cons, map_source_onTop Context.pause_source]
    exact List.mem_cons_of_mem _ hon
  exact Bool.false_ne_true (hstack.symm.trans hon')

/-- After the push of the winner the grant condition fails: no other class is above the one it holds (R95). -/
theorem State.grantCondition_push {s : State} (hs : s.SourcesInRange) {w : Fin 24} (hw : s.winner = some w) :
    (s.push w).grantCondition = false := by
  cases hv : (s.push w).winner with
  | none => exact State.grantCondition_eq_false_iff.mpr (.inl hv)
  | some v =>
    rw [State.grantCondition_of_winner hv]
    refine (State.canGrant_eq_false_iff_of_top (s.push_stack w) v).mpr (.inr ?_)
    have hbefore := State.eligible_of_push (State.bestOf_of_winner hv).eligible
    have hcls := State.cls_le_of_bidOf_le hs (State.bidOf_le_of_winner hw hbefore)
    rw [State.push_src]
    split
    · exact le_rfl
    · exact hcls

/-- Settles O20: a longer stack is the push of the winner. -/
theorem afterAPushTheGrantConditionFails : Obligations.AfterAPushTheGrantConditionFails := by
  intro s t hs ht hlen
  suffices hg : t.grantCondition = false from ⟨hg, State.reqAsserted_eq_false hg⟩
  rw [exec_grant, Host.Outcome.next.injEq] at ht
  rcases readUnlessReset_cases s State.grant with ⟨-, hr⟩ | ⟨-, hr⟩
  · rw [← ht, hr, State.undriven_stack] at hlen
    omega
  · rcases s.undriven.grant_cases with ⟨-, hgrant⟩ | ⟨w, hw, -, -, hgrant⟩
    · rw [← ht, hr, hgrant, State.undriven_stack] at hlen
      omega
    · rw [← ht, hr, hgrant]
      have hrange : s.undriven.SourcesInRange := hs
      exact State.grantCondition_push hrange hw

/-- Pausing as one record update (R109). -/
theorem Context.pause_eq (c : Context) : c.pause = { c with bstate := if c.bstate = .running then .paused else c.bstate } := by
  unfold Context.pause
  split <;> rfl

/-- Settles O19: the push of the winner, and the places it gives its source and the former top's. -/
theorem grantPushesAContextForTheWinner : Obligations.GrantPushesAContextForTheWinner := by
  intro s w cs a hr hw hg
  obtain ⟨v, hv, hexec⟩ := exec_grant_of_grantCondition hr hg
  obtain rfl : w = v := Option.some.inj (hw.symm.trans hv)
  intro bud fresh below
  have hbelow : onTop Context.pause s.stack = below := by
    simp only [below]
    cases hs : s.stack with
    | nil => rfl
    | cons c rest => rw [onTop, Context.pause_eq]
  refine ⟨_, hexec, (exec_acknowledgeCycle_eq_grant cs a s).trans hexec, ?_, ?_, fun c rest hs => ?_⟩
  · rw [grantByte_eq_add, ← hbelow]
    rfl
  · simp [State.sourceState]
  · have hne : c.source ≠ w := by
      rintro rfl
      obtain ⟨-, -, hoff⟩ := State.eligible_iff.mp (State.bestOf_of_winner hw).eligible
      have hon : s.onStack c.source = true := State.onStack_iff.mpr (by simp [hs])
      exact Bool.false_ne_true (hoff.symm.trans hon)
    refine ⟨?_, hne⟩
    simp [State.sourceState, hs, onTop, hne.symm]

/-! ### The take -/

/-- With RESET_N not low a take drives the header it leaves in the latch (R113). -/
theorem exec_take_high {s : State} (h : s.resetLow = false) :
    exec .take s = .next { s.undriven.takeEffect with dataOut := some s.undriven.takeEffect.latch.header } := by
  rw [exec_take, readUnlessReset_high h]
  rfl

section
variable {s : State} {c : Context} {rest : List Context} (hs : s.stack = c :: rest)
include hs

/-- A take on a queue with a head delivers it (R115). -/
theorem State.takeEffect_of_head {h : Record} {t : List Record} (hq : (s.src c.source).queue = h :: t) :
    s.takeEffect = ({ s with
      latch := { result := .event, kind := some h.kind, source := c.source, datum := h.datum, stamp := h.stamp,
                 missed := (s.src c.source).missed },
      stack := c.countTaken :: rest }.setSrc c.source ((s.src c.source).afterTake t)).release 1 := by
  simp [State.takeEffect, hs, hq]

/-- A take on an empty queue delivers the missed count alone (R116). -/
theorem State.takeEffect_of_empty_queue (hq : (s.src c.source).queue = []) :
    s.takeEffect = { s with
      latch := { result := .empty, kind := none, source := c.source, datum := 0, stamp := 0,
                 missed := (s.src c.source).missed } }.setSrc c.source { s.src c.source with missed := 0 } := by
  simp [State.takeEffect, hs, hq]

end

/-- A header with EVENT holds the kind's code (R152). -/
theorem eventCode_or_kindCode (k : Kind) : TakeResult.event.code ||| kindCode (some k) =
    match k with | .rise => 0x41 | .fall => 0x42 | .level => 0x43 | .post => 0x44 | .interval => 0x45 := by
  cases k <;> decide

/-- A header with EMPTY holds no kind (R152). -/
theorem emptyCode_or_kindCode : TakeResult.empty.code ||| kindCode none = 0x80 := by decide

/-- A record after a take, its credits kept exactly while records are left (R90). -/
theorem Source.afterTake_eq (q : Source) (t : List Record) :
    q.afterTake t = { q with queue := t, missed := 0, credits := if t = [] then 0 else q.credits } := by
  unfold Source.afterTake
  rw [if_congr List.isEmpty_iff rfl rfl]

/-- Settles O23: the branch of a take that finds a head record. -/
theorem takeDeliversTheHeadRecord : Obligations.TakeDeliversTheHeadRecord := by
  intro s c rest h t hr hs hq
  rw [exec_take_high hr, State.takeEffect_of_head (s := s.undriven) hs hq, Source.afterTake_eq]
  simp only [State.release_latch, State.setSrc_latch, EventLatch.header, eventCode_or_kindCode]
  rfl

/-- Settles O24: the branch of a take that finds the queue empty. -/
theorem takeOnAnEmptyQueueAnswersEmpty : Obligations.TakeOnAnEmptyQueueAnswersEmpty := by
  intro s c rest hr hs hq
  refine ⟨_, exec_take_high hr, ?_, ?_⟩
  · rw [State.takeEffect_of_empty_queue (s := s.undriven) hs hq]
    simp only [State.setSrc_latch, EventLatch.header, emptyCode_or_kindCode]
    rfl
  · rw [State.takeEffect_of_empty_queue (s := s.undriven) hs hq]
    simp [State.sourceState, hs]

end Sys2Proof.Machine
end

section
/-! The register writes (02, 03, 04, 05, 07, 08): the byte layouts as numbers, and the statements about R20, R29, R30, R36, R37, R65, R66, R72, R73, R74,
R76, R87, R93, R127, R128, R136, R137, R142, R144, R145, R146 and R153 to R155. -/

namespace Sys2Proof.Machine

/-! ### Bytes as numbers -/

/-- A joined value is 256 times its high byte plus its low byte (R145). -/
theorem joinBytes_eq (lo hi : Byte) : joinBytes lo hi = BitVec.ofNat 16 (256 * hi.toNat + lo.toNat) := by
  have hlo := lo.isLt
  have hhi := hi.isLt
  apply BitVec.eq_of_toNat_eq
  rw [joinBytes, BitVec.toNat_append, ← Nat.shiftLeft_add_eq_or_of_lt hlo, Nat.shiftLeft_eq, BitVec.toNat_ofNat]
  omega

/-- The low byte as a number. -/
theorem loByte_toNat (w : Word) : (loByte w).toNat = w.toNat % 256 := by
  simp [loByte, BitVec.extractLsb'_toNat]

/-- The high byte as a number. -/
theorem hiByte_toNat (w : Word) : (hiByte w).toNat = w.toNat / 256 := by
  have hw := w.isLt
  rw [hiByte, BitVec.extractLsb'_toNat, Nat.shiftRight_eq_div_pow]
  omega

/-- The low byte of a value's number. -/
theorem loByte_eq (w : Word) : loByte w = BitVec.ofNat 8 (w.toNat % 256) :=
  BitVec.eq_of_toNat_eq (by rw [loByte_toNat, BitVec.toNat_ofNat]; omega)

/-- The high byte of a value's number. -/
theorem hiByte_eq (w : Word) : hiByte w = BitVec.ofNat 8 (w.toNat / 256) := by
  have hw := w.isLt
  exact BitVec.eq_of_toNat_eq (by rw [hiByte_toNat, BitVec.toNat_ofNat]; omega)

/-- A number below 256 read from a byte. -/
theorem toNat_ofNat_byte {n : Nat} (h : n ≤ 255) : (BitVec.ofNat 8 n).toNat = n := by
  rw [BitVec.toNat_ofNat]
  omega

/-- A source's number read from a byte. -/
@[simp] theorem sourceByte_toNat (i : Fin 24) : (sourceByte i).toNat = i.val := toNat_ofNat_byte (by omega)

/-- The quota a byte stores (R30). -/
theorem clampQuota_eq (b : Byte) : clampQuota b = if b.toNat = 0 then 1 else if b.toNat ≤ 16 then b.toNat else 16 := by
  unfold clampQuota
  split
  · rfl
  · split <;> omega

/-- The mark a byte stores (R6). -/
theorem clampMark_eq (b : Byte) : clampMark b = if b.toNat ≤ 63 then b.toNat else 63 := by
  unfold clampMark
  split <;> omega

/-- The class a byte stores (R29). -/
theorem classOfByte_eq (b : Byte) : classOfByte b = BitVec.ofNat 3 (b.toNat % 8) := by
  apply BitVec.eq_of_toNat_eq
  rw [classOfByte, BitVec.extractLsb'_toNat, BitVec.toNat_ofNat]
  simp

/-- The action a byte stores (R128). -/
theorem actionOfByte_eq (b : Byte) : actionOfByte b = if b.toNat % 4 = 1 then .demote else .notify := by
  have hfield : b.extractLsb' 0 2 = 1#2 ↔ b.toNat % 4 = 1 := by
    rw [extractLsb'_eq_iff (k := 1) (by omega)]
    simp
  exact if_congr hfield rfl rfl

/-- The policy a byte stores for a line or posted source, by its bits 5:4 (R37). -/
theorem policyOfByte_eq (b : Byte) :
    policyOfByte b = if b.getLsbD 5 = false ∧ b.getLsbD 4 = true then .keepNewest else .keepOldest := by
  decide +revert

/-- The byte of four alert bits as a number (R155). -/
theorem AlertBits.byte_toNat (a : AlertBits) : a.byte.toNat =
    (if a.budget then 1 else 0) + (if a.poolLow then 2 else 0) + (if a.poolEmpty then 4 else 0) + (if a.missed then 8 else 0) := by
  obtain ⟨p, q, r, t⟩ := a
  revert p q r t
  decide

/-- TIMER_CTRL's byte as a number (R154). -/
theorem Timer.ctrlByte_toNat (t : Timer) : t.ctrlByte.toNat = (if t.mode = .repeating then 1 else 0) + (if t.running then 128 else 0) := by
  unfold Timer.ctrlByte
  cases t.mode <;> cases t.running <;> rfl

/-! ### The selectors' pages -/

section
variable {s : State}

/-- SRC_SEL selects source `i` (R36). -/
theorem State.selectedSource_of {i : Fin 24} (h : s.srcSel.toNat = i.val) : s.selectedSource = some (s.src i) := by
  simp [State.selectedSource, sourceOf_eq_some.mpr h]

/-- SRC_SEL selects no source (R36). -/
theorem State.selectedSource_none (h : 24 ≤ s.srcSel.toNat) : s.selectedSource = none := by
  simp [State.selectedSource, sourceOf_eq_none.mpr h]

/-- TIMER_SEL selects timer `n` (R72). -/
theorem State.selectedTimer_of {n : Fin 4} (h : s.timerSel.toNat = n.val) : s.selectedTimer = some s.timers[n] := by
  simp [State.selectedTimer, timerOf_eq_some.mpr h]

/-- TIMER_SEL selects no timer (R72). -/
theorem State.selectedTimer_none (h : 4 ≤ s.timerSel.toNat) : s.selectedTimer = none := by
  simp [State.selectedTimer, timerOf_eq_none.mpr h]

/-- BUDGET_SEL selects class `c` (R126). -/
theorem State.selectedClass_of {c : Fin 8} (h : s.budgetSel.toNat = c.val) : s.selectedClass = some s.budgets[c] := by
  simp [State.selectedClass, classOf_eq_some.mpr h]

/-- BUDGET_SEL selects no class (R126). -/
theorem State.selectedClass_none (h : 8 ≤ s.budgetSel.toNat) : s.selectedClass = none := by
  simp [State.selectedClass, classOf_eq_none.mpr h]

/-- CTX_SEL at or beyond the depth reaches no context (R105). -/
theorem State.ctxAt_none (h : s.stack.length ≤ s.ctxSel.toNat) : s.ctxAt = none := List.getElem?_eq_none h

end

/-- A page without a record reads 00h (R146). -/
theorem pageByte_none {α : Type} (f : α → Byte) : pageByte none f = 0 := rfl

/-- A page with a record reads its byte. -/
theorem pageByte_some {α : Type} (x : α) (f : α → Byte) : pageByte (some x) f = f x := rfl

/-! ### The source page -/

/-- A change of the source that SRC_SEL selects (R36). -/
theorem State.onSelected_of {s : State} {i : Fin 24} (h : s.srcSel.toNat = i.val) (f : Fin 24 → Source → Source) :
    s.onSelected f = s.setSrc i (f i (s.src i)) := by
  simp [State.onSelected, sourceOf_eq_some.mpr h]

/-- A change while SRC_SEL selects no source is ignored (R36). -/
theorem State.onSelected_none {s : State} (h : 24 ≤ s.srcSel.toNat) (f : Fin 24 → Source → Source) : s.onSelected f = s := by
  simp [State.onSelected, sourceOf_eq_none.mpr h]

section
variable {s : State} {i : Fin 24} (h : s.srcSel.toNat = i.val) (b : Byte)
include h

/-- SRC_CFG reaches the source that SRC_SEL selects (R37). -/
theorem State.writeSrcCfg_of : s.writeSrcCfg b = s.setSrc i ((s.src i).writeCfg i b) := State.onSelected_of h _

/-- SRC_CLASS reaches the source that SRC_SEL selects (R29). -/
theorem State.writeSrcClass_of : s.writeSrcClass b = s.setSrc i { s.src i with cls := BitVec.ofNat 3 (b.toNat % 8) } := by
  rw [← classOfByte_eq]
  exact State.onSelected_of h _

/-- SRC_QUOTA reaches the source that SRC_SEL selects (R30). -/
theorem State.writeSrcQuota_of :
    s.writeSrcQuota b = s.setSrc i { s.src i with quota := if b.toNat = 0 then 1 else if b.toNat ≤ 16 then b.toNat else 16 } := by
  rw [← clampQuota_eq]
  exact State.onSelected_of h _

end

/-- The writes of the source page are ignored while SRC_SEL selects no source (R36, R39). -/
theorem State.sourceWrites_none {s : State} (h : 24 ≤ s.srcSel.toNat) (b : Byte) :
    s.writeSrcCfg b = s ∧ s.writeSrcClass b = s ∧ s.writeSrcQuota b = s ∧ s.writeSrcLine b = s :=
  ⟨State.onSelected_none h _, State.onSelected_none h _, State.onSelected_none h _, State.writeSrcLine_of_no_line (by omega) b⟩

/-- What SRC_CFG stores, by the byte's bits (R37). -/
theorem Source.writeCfg_eq (i : Fin 24) (q : Source) (b : Byte) :
    q.writeCfg i b = { q with
      admitOn := b.getLsbD 0, bid := b.getLsbD 1, depthBoost := b.getLsbD 2
      policy := if 20 ≤ i.val then q.policy
        else if b.getLsbD 5 = false ∧ b.getLsbD 4 = true then .keepNewest else .keepOldest } := by
  have hpolicy : (if isInterval i = true then q.policy else policyOfByte b) = if 20 ≤ i.val then q.policy
      else if b.getLsbD 5 = false ∧ b.getLsbD 4 = true then .keepNewest else .keepOldest :=
    if_congr decide_eq_true_iff rfl (policyOfByte_eq b)
  rw [Source.writeCfg, hpolicy]

/-- Settles O41: each write of the source page is a change of the selected record. -/
theorem sourcePageWritesStoreTheSelectedRecord : Obligations.SourcePageWritesStoreTheSelectedRecord := by
  intro s b hr
  refine ⟨fun i hi => ⟨?_, ?_, ?_⟩, fun hnone => ?_⟩
  · refine (exec_write_high hr .srcCfg b).trans (congrArg _ ((State.writeSrcCfg_of (s := s.undriven) hi b).trans ?_))
    rw [Source.writeCfg_eq]
    rfl
  · exact (exec_write_high hr .srcClass b).trans (congrArg _ (State.writeSrcClass_of (s := s.undriven) hi b))
  · exact (exec_write_high hr .srcQuota b).trans (congrArg _ (State.writeSrcQuota_of (s := s.undriven) hi b))
  · obtain ⟨hcfg, hclass, hquota, hline⟩ := State.sourceWrites_none (s := s.undriven) hnone b
    simp only [List.forall_mem_cons]
    exact ⟨(exec_write_high hr .srcCfg b).trans (congrArg _ hcfg), (exec_write_high hr .srcClass b).trans (congrArg _ hclass),
      (exec_write_high hr .srcQuota b).trans (congrArg _ hquota), (exec_write_high hr .srcLine b).trans (congrArg _ hline),
      List.forall_mem_nil _⟩

/-- The byte of SRC_CFG by its fields' bits (R153). -/
theorem flagBits_eq_and (b : Byte) : flagBit (b.getLsbD 0) 0 ||| flagBit (b.getLsbD 1) 1 ||| flagBit (b.getLsbD 2) 2 = b &&& 0x07 := by
  decide +revert

/-- The policy's code by bits 5:4 (R153). -/
theorem policyOfByte_code (b : Byte) : (policyOfByte b).code = if b &&& 0x30 = 0x10 then 0x10 else 0x00 := by
  decide +revert

/-- Settles O42: the fields written are read back by their layout, and the other reads do not show them. -/
theorem srcCfgReadsBackWhatItStored : Obligations.SrcCfgReadsBackWhatItStored := by
  intro s t b i hr hi ht
  have hexec : exec (.srcCfg b) s = .next (s.undriven.setSrc i ((s.src i).writeCfg i b)) :=
    (exec_write_high hr .srcCfg b).trans (congrArg _ (State.writeSrcCfg_of (s := s.undriven) hi b))
  obtain rfl : s.undriven.setSrc i ((s.src i).writeCfg i b) = t := Host.Outcome.next.inj (hexec.symm.trans ht)
  have hsel : (s.undriven.setSrc i ((s.src i).writeCfg i b)).selectedSource = some ((s.src i).writeCfg i b) :=
    (State.selectedSource_of (s := s.undriven.setSrc i _) hi).trans (congrArg some (State.src_setSrc_self _ _ _))
  have hread : (s.undriven.setSrc i ((s.src i).writeCfg i b)).windowRead .srcCfg = (b &&& 0x07) ||| ((s.src i).writeCfg i b).policy.code := by
    rw [← flagBits_eq_and]
    exact congrArg (pageByte · Source.cfgByte) hsel
  refine ⟨fun hlow => ?_, fun hhigh hpolicy => ?_, ?_⟩
  · have hno : isInterval i = false := decide_eq_false (by omega)
    rw [hread, ← policyOfByte_code, Source.writeCfg, hno]
    rfl
  · have hyes : isInterval i = true := decide_eq_true hhigh
    rw [hread, Source.writeCfg, hyes, if_pos rfl, hpolicy]
    rfl
  · have hbefore := State.selectedSource_of hi
    have hsame : ∀ f : Source → Byte, f ((s.src i).writeCfg i b) = f (s.src i) →
        pageByte (s.undriven.setSrc i ((s.src i).writeCfg i b)).selectedSource f = pageByte s.selectedSource f := fun f hf => by
      rw [hsel, hbefore, pageByte_some, pageByte_some, hf]
    simp only [List.forall_mem_cons]
    exact ⟨hsame (fun q => q.cls.setWidth 8) rfl, hsame (fun q => BitVec.ofNat 8 q.quota) rfl,
      hsame (fun q => BitVec.ofNat 8 q.missed) rfl, rfl, List.forall_mem_nil _⟩

end Sys2Proof.Machine
end

section
/-! The other registers (01, 04, 05, 07, 08): the statements about R20, R65, R66, R72 to R74, R76, R87, R93, R127, R128, R136, R137, R142, R144, R145, R146,
R154 and R155. -/

namespace Sys2Proof.Machine

/-! ### The strobes FLUSH, TIMER_ARM and TIMER_STOP -/

/-- Settles O28: FLUSH by its operand. -/
theorem flushReleasesOneQueue : Obligations.FlushReleasesOneQueue := by
  intro s b hr
  refine ⟨fun i hi => ?_, fun hb => ?_⟩
  · refine (exec_write_high hr .flush b).trans (congrArg _ (?_ : s.undriven.flush b = _))
    simp only [State.flush, sourceOf_eq_some.mpr hi]
    rfl
  · refine (exec_write_high hr .flush b).trans (congrArg _ (?_ : s.undriven.flush b = _))
    simp only [State.flush, sourceOf_eq_none.mpr hb]
    rfl

/-- Settles O30: TIMER_ARM and TIMER_STOP by their operand. -/
theorem timerArmAndStop : Obligations.TimerArmAndStop := by
  intro s b hr
  have harm : exec (.timerArm b) s = .next (s.undriven.armTimer b) := exec_write_high hr .timerArm b
  have hstop : exec (.timerStop b) s = .next (s.undriven.stopTimer b) := exec_write_high hr .timerStop b
  rw [harm, hstop]
  refine ⟨fun n hn => ?_, fun hb => ?_⟩
  · simp only [State.armTimer, State.stopTimer, timerOf_eq_some.mpr hn]
    exact ⟨rfl, rfl⟩
  · simp only [State.armTimer, State.stopTimer, timerOf_eq_none.mpr hb]
    exact ⟨rfl, rfl⟩

/-! ### The byte registers -/

/-- Clearing by ones, flag by flag (R136). -/
theorem AlertBits.clearOnes_eq (a : AlertBits) (b : Byte) : a.clearOnes b =
    { budget := if b.getLsbD 0 then false else a.budget, poolLow := if b.getLsbD 1 then false else a.poolLow,
      poolEmpty := if b.getLsbD 2 then false else a.poolEmpty, missed := if b.getLsbD 3 then false else a.missed } := by
  have hbit : ∀ x y : Bool, (x && !y) = if y then false else x := by decide
  simp only [AlertBits.clearOnes, hbit]

/-- Settles O44: each of these writes stores its field alone. -/
theorem byteRegistersStoreTheirField : Obligations.ByteRegistersStoreTheirField := by
  intro s b hr
  refine ⟨exec_write_high hr .floor b, ?_, ?_, exec_write_high hr .alertEnable b, rfl, fun h => toNat_ofNat_byte (by omega)⟩
  · refine (exec_write_high hr .lowMark b).trans (congrArg _ (?_ : s.undriven.writeLowMark b = _))
    rw [State.writeLowMark, clampMark_eq]
    rfl
  · refine (exec_write_high hr .alertFlags b).trans (congrArg _ (?_ : s.undriven.writeAlertFlags b = _))
    rw [State.writeAlertFlags, AlertBits.clearOnes_eq]
    rfl

/-- Writing 0Fh clears every flag (R136). -/
theorem AlertBits.clearOnes_all (a : AlertBits) : a.clearOnes 0x0F = AlertBits.off := by
  obtain ⟨p, q, r, t⟩ := a
  revert p q r t
  decide

/-- Settles O45: ALERT_N by the enabled flags, and the reads of the Alert Unit. -/
theorem alertLineFollowsTheEnabledFlags : Obligations.AlertLineFollowsTheEnabledFlags := by
  intro s
  refine ⟨fun hr => ?_, fun hr => ?_, fun hr => ?_, s.flags.byte_toNat, s.enables.byte_toNat, sourceByte_toNat _⟩
  · simp [State.alertAsserted, AlertBits.anyEnabled, hr, or_assoc]
  · simp [State.alertAsserted, hr]
  · have hoff : (s.undriven.writeAlertFlags 0x0F).flags = AlertBits.off := s.flags.clearOnes_all
    refine ⟨_, exec_write_high hr .alertFlags 0x0F, State.alertAsserted_of_flags_off hoff, ?_⟩
    exact (congrArg AlertBits.byte hoff).trans (by decide)

/-! ### The 16-bit values -/

/-- A joined value as a number (R145). -/
theorem State.joined_eq (s : State) (v : WideValue) (b : Byte) :
    s.joined v b = BitVec.ofNat 16 (256 * b.toNat + (s.holding[wideIndex v]).toNat) := joinBytes_eq _ _

/-- A low-byte write whose value has a record stores its holding byte (R145). -/
theorem State.writeHolding_of {s : State} {v : WideValue} (h : s.reachesWide v = true) (b : Byte) :
    s.writeHolding v b = { s with holding := s.holding.set (wideIndex v) b } := if_pos h

/-- A low-byte write whose value has no record is ignored (R145). -/
theorem State.writeHolding_ignored {s : State} {v : WideValue} (h : s.reachesWide v = false) (b : Byte) :
    s.writeHolding v b = s := if_neg (Bool.eq_false_iff.mp h)

/-- Settles O46: a low byte is held, a high byte joined with it. -/
theorem wideWritesHoldTheLowByteAndJoinTheHigh : Obligations.WideWritesHoldTheLowByteAndJoinTheHigh := by
  intro s b hr
  refine ⟨exec_write_high hr .agePeriodL b, exec_write_high hr .tbDivL b, exec_write_high hr .stampL b, fun hn => ?_, fun hc => ?_, ?_, ?_, ?_⟩
  · have hreach : s.undriven.reachesWide .timerPeriod = true := by
      have hsel : timerOf s.timerSel = some ⟨s.timerSel.toNat, hn⟩ := timerOf_eq_some.mpr rfl
      simp [State.reachesWide, hsel]
    exact (exec_write_high hr .timerPeriodL b).trans (congrArg _ (State.writeHolding_of hreach b))
  · have hreach : s.undriven.reachesWide .budget = true := by
      have hsel : classOf s.budgetSel = some ⟨s.budgetSel.toNat, hc⟩ := classOf_eq_some.mpr rfl
      simp [State.reachesWide, hsel]
    exact (exec_write_high hr .budgetL b).trans (congrArg _ (State.writeHolding_of hreach b))
  · refine (exec_write_high hr .agePeriodH b).trans (congrArg _ (?_ : s.undriven.writeAgePeriod b = _))
    rw [State.writeAgePeriod, State.joined_eq]
    rfl
  · refine (exec_write_high hr .tbDivH b).trans (congrArg _ (?_ : s.undriven.writeTbDiv b = _))
    rw [State.writeTbDiv, State.joined_eq]
    rfl
  · refine (exec_write_high hr .stampH b).trans (congrArg _ (?_ : s.undriven.writeStamp b = _))
    rw [State.writeStamp, State.joined_eq]
    rfl

/-! ### The timer and the budget page -/

/-- A change of the timer that TIMER_SEL selects (R76). -/
theorem State.onTimer_of {s : State} {n : Fin 4} (h : s.timerSel.toNat = n.val) (f : Timer → Timer) :
    s.onTimer f = { s with timers := s.timers.set n (f s.timers[n]) } := by
  simp only [State.onTimer, timerOf_eq_some.mpr h]

/-- A change while TIMER_SEL selects no timer is ignored (R72). -/
theorem State.onTimer_none {s : State} (h : 4 ≤ s.timerSel.toNat) (f : Timer → Timer) : s.onTimer f = s := by
  simp only [State.onTimer, timerOf_eq_none.mpr h]

/-- A change of the class that BUDGET_SEL selects (R127). -/
theorem State.onClass_of {s : State} {c : Fin 8} (h : s.budgetSel.toNat = c.val) (f : ClassBudget → ClassBudget) :
    s.onClass f = { s with budgets := s.budgets.set c (f s.budgets[c]) } := by
  simp only [State.onClass, classOf_eq_some.mpr h]

/-- A change while BUDGET_SEL selects no class is ignored (R126). -/
theorem State.onClass_none {s : State} (h : 8 ≤ s.budgetSel.toNat) (f : ClassBudget → ClassBudget) : s.onClass f = s := by
  simp only [State.onClass, classOf_eq_none.mpr h]

/-- TIMER_PERIOD H reaches the timer that TIMER_SEL selects (R76). -/
theorem State.writeTimerPeriod_of {s : State} {n : Fin 4} (h : s.timerSel.toNat = n.val) (b : Byte) :
    s.writeTimerPeriod b = { s with
      timers := s.timers.set n { s.timers[n] with period := BitVec.ofNat 16 (256 * b.toNat + s.holding[3].toNat) } } := by
  have hjoined := s.joined_eq .timerPeriod b
  unfold State.writeTimerPeriod
  rw [State.onTimer_of h, hjoined]
  rfl

/-- TIMER_CTRL reaches the timer that TIMER_SEL selects (R76). -/
theorem State.writeTimerCtrl_of {s : State} {n : Fin 4} (h : s.timerSel.toNat = n.val) (b : Byte) :
    s.writeTimerCtrl b = { s with timers := s.timers.set n { s.timers[n] with mode := if b.getLsbD 0 then .repeating else .oneShot } } :=
  State.onTimer_of h _

/-- BUDGET H reaches the class that BUDGET_SEL selects (R127). -/
theorem State.writeBudget_of {s : State} {c : Fin 8} (h : s.budgetSel.toNat = c.val) (b : Byte) :
    s.writeBudget b = { s with
      budgets := s.budgets.set c { s.budgets[c] with budget := BitVec.ofNat 16 (256 * b.toNat + s.holding[4].toNat) } } := by
  have hjoined := s.joined_eq .budget b
  unfold State.writeBudget
  rw [State.onClass_of h, hjoined]
  rfl

/-- BUDGET_ACTION reaches the class that BUDGET_SEL selects (R128). -/
theorem State.writeBudgetAction_of {s : State} {c : Fin 8} (h : s.budgetSel.toNat = c.val) (b : Byte) :
    s.writeBudgetAction b = { s with
      budgets := s.budgets.set c { s.budgets[c] with action := if b.toNat % 4 = 1 then .demote else .notify } } := by
  unfold State.writeBudgetAction
  rw [State.onClass_of h, actionOfByte_eq]

/-- The writes of the timer page while TIMER_SEL selects no timer (R72, R145). -/
theorem State.timerWrites_none {s : State} (h : 4 ≤ s.timerSel.toNat) (b : Byte) :
    s.writeTimerPeriod b = s ∧ s.writeTimerCtrl b = s ∧ s.writeHolding .timerPeriod b = s :=
  ⟨State.onTimer_none h _, State.onTimer_none h _,
    State.writeHolding_ignored (by simp [State.reachesWide, timerOf_eq_none.mpr h]) b⟩

/-- The writes of the budget page while BUDGET_SEL selects no class (R126, R145). -/
theorem State.budgetWrites_none {s : State} (h : 8 ≤ s.budgetSel.toNat) (b : Byte) :
    s.writeBudget b = s ∧ s.writeBudgetAction b = s ∧ s.writeHolding .budget b = s :=
  ⟨State.onClass_none h _, State.onClass_none h _,
    State.writeHolding_ignored (by simp [State.reachesWide, classOf_eq_none.mpr h]) b⟩

/-- The action's code as a number (R154). -/
theorem BudgetAction.code_toNat (a : BudgetAction) : a.code.toNat = if a = .demote then 1 else 0 := by
  cases a <;> decide

/-- A page view without a record shows 00h at both its addresses (R146). -/
theorem State.page_none {s : State} {v : View} (h : s.reachesView v = false) : s.windowRead v.low = 0 ∧ s.windowRead v.high = 0 := by
  rw [State.windowRead_low, State.windowRead_high, State.viewWord_of_not_reaches h, State.highByte_of_not_reaches h]
  exact ⟨by decide, rfl⟩

/-- Settles O47: the writes and reads of the two pages, by what their selector reaches. -/
theorem pageWritesReachTheSelectedTimerOrClass : Obligations.PageWritesReachTheSelectedTimerOrClass := by
  intro s b hr
  refine ⟨fun n hn => ⟨?_, ?_, ?_⟩, fun c hc => ⟨?_, ?_, ?_⟩, fun h => ?_, fun h => ?_, fun h => ?_, fun h => ?_⟩
  · exact (exec_write_high hr .timerPeriodH b).trans (congrArg _ (State.writeTimerPeriod_of (s := s.undriven) hn b))
  · exact (exec_write_high hr .timerCtrl b).trans (congrArg _ (State.writeTimerCtrl_of (s := s.undriven) hn b))
  · have hread : s.windowRead .timerCtrl = s.timers[n].ctrlByte := congrArg (pageByte · Timer.ctrlByte) (State.selectedTimer_of hn)
    rw [hread, Timer.ctrlByte_toNat]
  · exact (exec_write_high hr .budgetH b).trans (congrArg _ (State.writeBudget_of (s := s.undriven) hc b))
  · exact (exec_write_high hr .budgetAction b).trans (congrArg _ (State.writeBudgetAction_of (s := s.undriven) hc b))
  · have hread : s.windowRead .budgetAction = s.budgets[c].action.code :=
      congrArg (fun o : Option ClassBudget => pageByte o fun x => x.action.code) (State.selectedClass_of hc)
    rw [hread, BudgetAction.code_toNat]
  · obtain ⟨hperiod, hctrl, hholding⟩ := State.timerWrites_none (s := s.undriven) h b
    simp only [List.forall_mem_cons]
    exact ⟨(exec_write_high hr .timerPeriodH b).trans (congrArg _ hperiod), (exec_write_high hr .timerCtrl b).trans (congrArg _ hctrl),
      (exec_write_high hr .timerPeriodL b).trans (congrArg _ hholding), List.forall_mem_nil _⟩
  · obtain ⟨hbudget, haction, hholding⟩ := State.budgetWrites_none (s := s.undriven) h b
    simp only [List.forall_mem_cons]
    exact ⟨(exec_write_high hr .budgetH b).trans (congrArg _ hbudget), (exec_write_high hr .budgetAction b).trans (congrArg _ haction),
      (exec_write_high hr .budgetL b).trans (congrArg _ hholding), List.forall_mem_nil _⟩
  · have hnone := State.selectedTimer_none h
    obtain ⟨hperiodL, hperiodH⟩ := State.page_none (s := s) (v := .timerPeriod) (by simp [State.reachesView, hnone])
    obtain ⟨hcountL, hcountH⟩ := State.page_none (s := s) (v := .timerCount) (by simp [State.reachesView, hnone])
    simp only [List.forall_mem_cons]
    exact ⟨hperiodL, hperiodH, hcountL, hcountH, congrArg (pageByte · Timer.ctrlByte) hnone, List.forall_mem_nil _⟩
  · have hnone := State.selectedClass_none h
    obtain ⟨hbudgetL, hbudgetH⟩ := State.page_none (s := s) (v := .budget) (by simp [State.reachesView, hnone])
    simp only [List.forall_mem_cons]
    exact ⟨hbudgetL, hbudgetH, congrArg (fun o : Option ClassBudget => pageByte o fun x => x.action.code) hnone, List.forall_mem_nil _⟩

/-! ### TB_CTRL -/

/-- A write that leaves TB_RUN as it is does nothing (R66). -/
theorem State.writeTbCtrl_same {s : State} {b : Byte} (h : b.getLsbD 0 = s.tbRun) : s.writeTbCtrl b = s := if_pos h

/-- A 1 while TB_RUN is 0 starts a new interval (R66). -/
theorem State.writeTbCtrl_start {s : State} {b : Byte} (hb : b.getLsbD 0 = true) (h : s.tbRun = false) :
    s.writeTbCtrl b = { s with tbRun := true, clkCount := 0, intervalDivider := s.divider } :=
  (if_neg fun he => Bool.false_ne_true (h.symm.trans (he.symm.trans hb))).trans (if_pos hb)

/-- A 0 while TB_RUN is 1 abandons the interval (R66). -/
theorem State.writeTbCtrl_stop {s : State} {b : Byte} (hb : b.getLsbD 0 = false) (h : s.tbRun = true) :
    s.writeTbCtrl b = { s with tbRun := false, clkCount := 0 } :=
  (if_neg fun he => Bool.false_ne_true (hb.symm.trans (he.trans h))).trans (if_neg (Bool.eq_false_iff.mp hb))

/-- Settles O48: the three cases of TB_CTRL. -/
theorem tbCtrlStopsAndStartsTheTimebase : Obligations.TbCtrlStopsAndStartsTheTimebase := by
  intro s b hr
  have hexec : exec (.tbCtrl b) s = .next (s.undriven.writeTbCtrl b) := exec_write_high hr .tbCtrl b
  have hbit : ∀ x : Bool, (flagBit x 0).toNat = if x then 1 else 0 := by decide
  rw [hexec]
  exact ⟨fun hb => congrArg _ (State.writeTbCtrl_same (s := s.undriven) hb),
    fun hb hrun => congrArg _ (State.writeTbCtrl_start (s := s.undriven) hb hrun),
    fun hb hrun => congrArg _ (State.writeTbCtrl_stop (s := s.undriven) hb hrun), hbit s.tbRun⟩

/-! ### The selectors and the ignored writes -/

/-- A register with no row of its own other than the selectors ignores every write (R142). -/
theorem State.windowWrite_ignored {r : Reg} (b : Byte) (s : State) (hwf : (Instr.registerWrite r b).wf = true)
    (hr : r ∉ ([.srcSel, .ctxSel, .timerSel, .budgetSel, .postSrc] : List Reg)) : s.windowWrite r b = s := by
  revert hwf hr
  cases r <;> simp [Instr.wf, Reg.hasOwnWriteRow, State.windowWrite]

/-- Settles O50: the selectors store their byte, and the read-only registers ignore a write. -/
theorem registerWriteStoresASelectorOrIsIgnored : Obligations.RegisterWriteStoresASelectorOrIsIgnored := by
  intro s b hr
  have hexec : ∀ r, exec (.registerWrite r b) s = .next (s.undriven.windowWrite r b) := fun r => by
    rw [exec_registerWrite, unlessReset_high hr]
  exact ⟨hexec .srcSel, hexec .ctxSel, hexec .timerSel, hexec .budgetSel, hexec .postSrc,
    fun r hwf hout => (hexec r).trans (congrArg _ (State.windowWrite_ignored b s.undriven hwf hout)), rfl, rfl, rfl, rfl, rfl⟩

/-! ### The 16-bit views -/

/-- Each view has its own latch (R144). -/
theorem viewIndex_injective : Function.Injective viewIndex := by
  intro u v h
  revert h
  cases u <;> cases v <;> decide

/-- Settles O49: the low-byte read, the latch it leaves, and what the views show. -/
theorem lowByteReadLatchesTheHighByte : Obligations.LowByteReadLatchesTheHighByte := by
  intro s v hr x t
  have hx : x = (s.viewWord v).toNat := rfl
  have ht : t = { s with
      dataOut := some (loByte (s.viewWord v)), readLatch := s.readLatch.set (viewIndex v) (hiByte (s.viewWord v)) } := by
    rw [loByte_eq, hiByte_eq]
  have hlatch : t.latched v = hiByte (s.viewWord v) := by
    rw [ht]
    simp [State.latched]
  refine ⟨?_, fun u hu => ?_, ?_, ?_, ?_, rfl, rfl, rfl, rfl, fun k => ⟨s.rawWord_getLsbD k, s.qualWord_getLsbD k⟩,
    fun n hn => ?_, fun c hc => ?_, fun c hc => ?_,
    ?_, fun h => ?_, fun h => ?_, fun h => ?_⟩
  · rw [ht]
    exact congrArg _ (readUnlessReset_high hr _)
  · have hne : (viewIndex v).val ≠ (viewIndex u).val := fun h => hu (viewIndex_injective (Fin.ext h)).symm
    rw [ht]
    simp [State.latched, hne]
  · rw [State.windowRead_low, loByte_toNat]
  · rw [State.windowRead_high]
    have hreach : t.reachesView v = s.reachesView v := by rw [ht]; cases v <;> rfl
    cases hv : s.reachesView v with
    | true => rw [State.highByte_of_reaches (hreach.trans hv), hlatch, hiByte_toNat]
    | false =>
      rw [State.highByte_of_not_reaches (hreach.trans hv), hx, State.viewWord_of_not_reaches hv]
      rfl
  · cases v <;> rfl
  · have hsel := State.selectedTimer_of hn
    refine ⟨congrArg (pageWord · Timer.period) hsel, congrArg (pageWord · Timer.count) hsel, ?_, ?_⟩
    · exact State.highByte_of_reaches (v := .timerPeriod) (by simp [State.reachesView, hsel])
    · exact State.highByte_of_reaches (v := .timerCount) (by simp [State.reachesView, hsel])
  · have hsel := State.selectedClass_of hc
    exact ⟨congrArg (pageWord · ClassBudget.budget) hsel, State.highByte_of_reaches (v := .budget) (by simp [State.reachesView, hsel])⟩
  · have hsel : s.ctxAt = some c := hc
    refine ⟨congrArg (pageWord · Context.grantStamp) hsel, congrArg (pageWord · Context.remaining) hsel, ?_, ?_⟩
    · exact State.highByte_of_reaches (v := .ctxStamp) (by simp [State.reachesView, hsel])
    · exact State.highByte_of_reaches (v := .ctxBudget) (by simp [State.reachesView, hsel])
  · simp only [List.forall_mem_cons, State.windowRead_high]
    exact ⟨rfl, rfl, rfl, rfl, rfl, rfl, List.forall_mem_nil _⟩
  · have hnone := State.selectedTimer_none h
    simp only [List.forall_mem_cons]
    refine ⟨⟨congrArg (pageWord · Timer.period) hnone, ?_⟩, ⟨congrArg (pageWord · Timer.count) hnone, ?_⟩, List.forall_mem_nil _⟩
    · exact (State.page_none (by simp [State.reachesView, hnone])).2
    · exact (State.page_none (by simp [State.reachesView, hnone])).2
  · have hnone := State.selectedClass_none h
    exact ⟨congrArg (pageWord · ClassBudget.budget) hnone, (State.page_none (v := .budget) (by simp [State.reachesView, hnone])).2⟩
  · have hnone := State.ctxAt_none h
    simp only [List.forall_mem_cons]
    refine ⟨⟨congrArg (pageWord · Context.grantStamp) hnone, ?_⟩, ⟨congrArg (pageWord · Context.remaining) hnone, ?_⟩,
      List.forall_mem_nil _⟩
    · exact (State.page_none (by simp [State.reachesView, hnone])).2
    · exact (State.page_none (by simp [State.reachesView, hnone])).2

end Sys2Proof.Machine
end

section
/-! The expiries as commands (04, 2.3; 05, 3; 07, 2): the statements about R66, R75, R88, R89, R130, R132 and R133. -/

namespace Sys2Proof.Machine

/-! ### Whether an expiry is due -/

/-- The top context's budget is due when it is RUNNING with 1 remaining (R130). -/
theorem State.budgetDue_iff {s : State} : s.budgetDue = true ↔ ∃ c rest, s.stack = c :: rest ∧ c.bstate = .running ∧ c.remaining = 1 := by
  unfold State.budgetDue
  cases hs : s.stack with
  | nil => simp
  | cons c rest => simp

/-- An expiry whose condition fails does nothing (R66; log 4). -/
theorem ifDue_not {s u : State} {d : Bool} (h : ¬ (s.ticking = true ∧ d = true)) : (if s.ticking && d then u else s.undriven) = s.undriven :=
  if_neg (by rwa [Bool.and_eq_true])

/-- An expiry whose condition holds takes place. -/
theorem ifDue_due {s u : State} {d : Bool} (ht : s.ticking = true) (h : d = true) : (if s.ticking && d then u else s.undriven) = u :=
  if_pos (by rw [ht, h]; rfl)

/-- With TB_RUN 0 no tick comes (R66). -/
theorem State.not_ticking_of_stopped {s : State} (h : s.tbRun = false) : s.ticking = false := by
  simp [State.ticking, h]

/-- Settles O34: the conditions of the expiries, one by one. -/
theorem expiriesThatAreNotDueDoNothing : Obligations.ExpiriesThatAreNotDueDoNothing := by
  intro s
  refine ⟨fun hstop w n => ?_, fun n hn => congrArg _ (ifDue_not fun ⟨_, hexp⟩ => ?_),
    fun hage => congrArg _ (ifDue_not fun ⟨_, hdue⟩ => ?_),
    fun htop => congrArg _ (ifDue_not fun ⟨_, hdue⟩ => ?_)⟩
  · have hno : ∀ d : Bool, ¬ (s.ticking = true ∧ d = true) := fun d h =>
      Bool.false_ne_true ((State.not_ticking_of_stopped hstop).symm.trans h.1)
    exact ⟨congrArg _ (if_neg (Bool.eq_false_iff.mp (State.not_ticking_of_stopped hstop))), congrArg _ (ifDue_not (hno _)),
      congrArg _ (ifDue_not (hno _)), congrArg _ (ifDue_not (hno _))⟩
  · obtain ⟨hrun, hcount⟩ := Timer.expires_iff.mp hexp
    exact hn.elim (fun h => Bool.false_ne_true (h.symm.trans hrun)) fun h => h hcount
  · obtain ⟨hperiod, hcount⟩ := State.agingDue_iff.mp hdue
    exact hage.elim hperiod fun h => h hcount
  · obtain ⟨c, rest, hs, hrun, hone⟩ := State.budgetDue_iff.mp hdue
    exact (htop c rest hs).elim (fun h => h hrun) fun h => h hone

/-! ### The timer's expiry -/

/-- An expiring timer continues by its mode (R75). -/
theorem Timer.continued_eq (t : Timer) :
    t.continued = if t.mode = .repeating then { t with count := t.period } else { t with running := false, count := 0 } := by
  unfold Timer.continued
  cases t.mode <;> simp

/-- An expiry is the admission of its record and the timer continued (R75). -/
theorem State.expireTimer_eq (s : State) (n : Fin 4) :
    s.expireTimer n = { (s.admitArrival (s.expiryRecord n)).2 with timers := s.timers.set n (if s.timers[n].mode = .repeating
      then { s.timers[n] with count := s.timers[n].period } else { s.timers[n] with running := false, count := 0 }) } := by
  have htimers := (s.admit_frame (s.expiryRecord n)).work.timers
  unfold State.expireTimer
  simp only [htimers, Timer.continued_eq]

/-- Settles O31: the admission of the expiry's record, by the branches of COALESCE. -/
theorem timerExpiryMakesItsArrivalAndContinues : Obligations.TimerExpiryMakesItsArrivalAndContinues := by
  intro s n hrun hhigh hon hone i r after s0
  have hexec : exec (.timerExpiry n) s = .next { (s0.admitArrival r).2 with timers := after } :=
    congrArg _ ((ifDue_due (State.ticking_of hrun hhigh) (Timer.expires_iff.mpr ⟨hon, hone⟩)).trans (State.expireTimer_eq s.undriven n))
  have hi : isInterval r.source = true := isInterval_timerSource n
  rw [hexec]
  refine ⟨rfl, rfl, fun ha => ?_, fun h ha hq hd => ?_, fun ha hq hf => ⟨_, rfl, ?_⟩⟩
  · rw [State.admitArrival_off (s := s0) (r := r) ha]
  · have hmerge : s0.coalesce r = s0.setSrc i { s.src i with queue := [{ h with datum := h.datum + 1 }] } := by
      rw [State.coalesce_eq_absorb (s := s0) hi ha, Source.intake_merged (q := s0.src r.source) ha hi hq hd]
      exact State.absorb_queue s0 i _
    rw [State.admitArrival_eq_coalesce (s := s0) hi ha, hmerge]
  · have hfree : s0.freeCount ≠ 0 := by
      change s.freeCount ≠ 0
      omega
    have htake : (s0.admitArrival r).2 = s0.absorb i ⟨{ s.src i with queue := [r] }, true, false, false⟩ := by
      rw [State.admitArrival_eq_absorb, decide_eq_true hfree, Source.intake_interval_append (q := s0.src r.source) ha hi hq]
      rfl
    rw [htake]
    refine ⟨?_, rfl, rfl⟩
    exact congrArg Source.queue (State.src_setSrc_self s0 i _)

/-! ### The aging expiry -/

/-- Credits make no source eligible (R32). -/
theorem State.grantCredits_eligible (s : State) (i : Fin 24) : s.grantCredits.eligible i = s.eligible i := by
  rw [Bool.eq_iff_iff, State.eligible_iff, State.eligible_iff, s.grantCredits_frame.bid, s.grantCredits_queue, s.grantCredits_frame.onStack]

/-- On a non-empty stack credits leave the grant condition (R94). -/
theorem State.grantCredits_grantCondition {s : State} (hs : s.SourcesInRange) (hstack : s.stack ≠ []) :
    s.grantCredits.grantCondition = s.grantCondition := by
  have hpasses : ∀ i, s.grantCredits.Passes i ↔ s.Passes i := fun i => by
    unfold State.Passes
    simp only [s.grantCredits_frame.stack, s.grantCredits_frame.cls, hstack, false_and, false_or]
  rw [Bool.eq_iff_iff, State.grantCondition_iff hs, State.grantCondition_iff hs.grantCredits]
  simp only [State.grantCredits_eligible, hpasses]

/-- Settles O32: the credits of the reloaded state. -/
theorem agingExpiryGivesOneCreditToEveryEligibleSource : Obligations.AgingExpiryGivesOneCreditToEveryEligibleSource := by
  intro s hrun hhigh hperiod hone
  let u : State := { s.undriven with agingCount := s.agePeriod }
  have hexec : exec .agingExpiry s = .next u.grantCredits :=
    congrArg _ ((ifDue_due (State.ticking_of hrun hhigh) (State.agingDue_iff.mpr ⟨hperiod, hone⟩)).trans
      (congrArg State.grantCredits (State.countAging_loaded (s := s.undriven) hperiod hone)))
  have hsrc : ∀ i, u.grantCredits.src i = if s.eligible i = true ∧ (s.src i).credits < 16 then
      { s.src i with credits := (s.src i).credits + 1 } else s.src i := fun i => u.grantCredits_src i
  refine ⟨_, hexec, fun i => ⟨fun he hlt => ?_, fun hnot => ?_, fun hnot => ?_⟩, ?_, fun hstack hs => ?_⟩
  · have hgain := (hsrc i).trans (if_pos ⟨he, hlt⟩)
    refine ⟨hgain, ?_⟩
    unfold State.bidOf
    rw [hgain]
    rfl
  · refine (hsrc i).trans (if_neg fun ⟨he, hlt⟩ => ?_)
    exact hnot.elim (fun h => Bool.false_ne_true (h.symm.trans he)) fun h => absurd hlt (Nat.not_lt.mpr h)
  · refine (hsrc i).trans (if_neg fun ⟨he, _⟩ => ?_)
    obtain ⟨hbid, hqueue, hoff⟩ := State.eligible_iff.mp he
    rcases hnot with h | h | h
    · exact hqueue h
    · exact Bool.false_ne_true (h.symm.trans hbid)
    · exact Bool.false_ne_true (hoff.symm.trans h)
  · exact u.grantCredits_frame.rest
  · have hrange : u.SourcesInRange := hs
    exact State.grantCredits_grantCondition hrange hstack

/-! ### The budget's expiry -/

/-- Settles O33: the expired top context, and the winner of class 1 or above that a demoted one lets in. -/
theorem budgetExpiryExpiresTheTopContext : Obligations.BudgetExpiryExpiresTheTopContext := by
  intro s c rest hrun hhigh hs hrunning hone act t
  have heq : s.undriven.expireBudget = t := by
    unfold State.expireBudget
    rw [State.undriven_stack, hs]
    rfl
  refine ⟨?_, fun hdemote hdepth w hw hclass => ?_⟩
  · exact congrArg _ ((ifDue_due (State.ticking_of hrun hhigh) (State.budgetDue_iff.mpr ⟨c, rest, hs, hrunning, hone⟩)).trans heq)
  · have hlen : t.stack.length ≤ 5 := by
      change rest.length + 1 ≤ 5
      rwa [hs, List.length_cons] at hdepth
    have hgrant : t.canGrant w = true := by
      refine (State.canGrant_iff_of_top rfl w).mpr ⟨hlen, ?_⟩
      change (if act = .demote then (0 : BitVec 3) else c.heldClass).toNat < _
      rw [if_pos hdemote]
      exact hclass
    have hreset : t.resetLow = false := hhigh
    rw [State.reqAsserted, State.grantCondition_of_winner hw, hgrant, hreset]
    rfl

end Sys2Proof.Machine
end

section
/-! What each command leaves (06, 2.3 and 4.3; 07, 3; 08, 2.1 and 3.3): the event latch, the read latches, CMD_STATUS, the stack's sources, the alert flags
and ALERT_SOURCE, command by command; the statements about R102, R106, R117, R135, R138, R144 and R148. -/

namespace Sys2Proof.Machine

/-! ### The fields that few commands write -/

/-- No set flag is cleared. -/
structure FlagsKept (s t : State) : Prop where
  budget : s.flags.budget = true → t.flags.budget = true
  poolLow : s.flags.poolLow = true → t.flags.poolLow = true
  poolEmpty : s.flags.poolEmpty = true → t.flags.poolEmpty = true
  missed : s.flags.missed = true → t.flags.missed = true

/-- The same flags. -/
theorem FlagsKept.of_eq {s t : State} (h : t.flags = s.flags) : FlagsKept s t := by
  constructor <;> rw [h] <;> exact id

/-- The latch, the read latches, ALERT_SOURCE, CMD_STATUS and the sources of the stack. -/
def State.control (s : State) : EventLatch × Vector Byte 11 × Fin 24 × Answer × List (Fin 24) :=
  (s.latch, s.readLatch, s.alertSource, s.cmdStatus, s.stack.map Context.source)

/-- What most commands leave: the control fields as they were, and no flag cleared. -/
structure ControlFrame (s t : State) : Prop where
  control : t.control = s.control
  flags : FlagsKept s t

/-- A change of other fields. -/
theorem ControlFrame.of_eq {s t : State} (hc : t.control = s.control) (hf : t.flags = s.flags) : ControlFrame s t :=
  ⟨hc, .of_eq hf⟩

theorem ControlFrame.refl (s : State) : ControlFrame s s := .of_eq rfl rfl

/-- Works leave the control fields. -/
theorem WorkFrame.controlFrame {s t : State} (h : WorkFrame s t) : ControlFrame s t where
  control := by rw [h.rest]; rfl
  flags := ⟨fun hb => h.budgetFlag.trans hb, h.poolLow, h.poolEmpty, h.missed⟩

/-! ### The writes -/

/-- What the write of register `r` leaves. -/
structure WriteFrame (s t : State) (r : Reg) : Prop where
  readLatch : t.readLatch = s.readLatch
  alertSource : t.alertSource = s.alertSource
  latch : r ≠ .clear → t.latch = s.latch
  flags : r ∉ ([.clear, .alertFlags] : List Reg) → FlagsKept s t
  sources : r ∉ ([.endService, .unwind, .clear] : List Reg) → t.stack.map Context.source = s.stack.map Context.source
  cmdStatus : r ∉ ([.endService, .unwind, .flush, .clear, .post, .timerArm, .timerStop] : List Reg) → t.cmdStatus = s.cmdStatus

/-- A write that leaves all of them. -/
theorem ControlFrame.write {s t : State} (h : ControlFrame s t) (r : Reg) : WriteFrame s t r where
  readLatch := congrArg (·.2.1) h.control
  alertSource := congrArg (·.2.2.1) h.control
  latch _ := congrArg (·.1) h.control
  flags _ := h.flags
  sources _ := congrArg (·.2.2.2.2) h.control
  cmdStatus _ := congrArg (·.2.2.2.1) h.control

/-- A write that leaves all of them but for its answer. -/
theorem ControlFrame.answered {s t : State} (h : ControlFrame s t) {r : Reg} (a : Answer)
    (hr : r ∈ ([.endService, .unwind, .flush, .clear, .post, .timerArm, .timerStop] : List Reg)) : WriteFrame s (t.answer a) r where
  readLatch := congrArg (·.2.1) h.control
  alertSource := congrArg (·.2.2.1) h.control
  latch _ := congrArg (·.1) h.control
  flags _ := ⟨h.flags.budget, h.flags.poolLow, h.flags.poolEmpty, h.flags.missed⟩
  sources _ := congrArg (·.2.2.2.2) h.control
  cmdStatus hn := absurd hr hn

/-! ### The end of services -/

/-- What the end of a service leaves: the latches and ALERT_SOURCE as they were, and no flag cleared. -/
structure ServiceFrame (s t : State) : Prop where
  latch : t.latch = s.latch
  readLatch : t.readLatch = s.readLatch
  alertSource : t.alertSource = s.alertSource
  flags : FlagsKept s t

/-- One after another. -/
theorem ServiceFrame.trans {s t u : State} (h : ServiceFrame s t) (k : ServiceFrame t u) : ServiceFrame s u where
  latch := k.latch.trans h.latch
  readLatch := k.readLatch.trans h.readLatch
  alertSource := k.alertSource.trans h.alertSource
  flags := ⟨k.flags.budget ∘ h.flags.budget, k.flags.poolLow ∘ h.flags.poolLow, k.flags.poolEmpty ∘ h.flags.poolEmpty,
    k.flags.missed ∘ h.flags.missed⟩

/-- Works on another stack. -/
theorem WorkFrame.serviceFrame {s t : State} {l : List Context} (h : WorkFrame { s with stack := l } t) : ServiceFrame s t where
  latch := h.latch
  readLatch := congrArg (·.2.1) h.controlFrame.control
  alertSource := h.alertSource
  flags := ⟨h.controlFrame.flags.budget, h.poolLow, h.poolEmpty, h.missed⟩

/-- A pop is the end of a service. -/
theorem State.pop_serviceFrame (s : State) : ServiceFrame s s.pop := by
  obtain ⟨l, hs⟩ : ∃ l, s.stack = l := ⟨_, rfl⟩
  cases l with
  | nil =>
    rw [s.pop_nil hs]
    exact (WorkFrame.refl { s with stack := s.stack }).serviceFrame
  | cons c rest =>
    rw [State.pop_eq hs]
    exact (State.reassertSource_frame _ _).work.serviceFrame

/-- Any number of pops ends services. -/
theorem State.popMany_serviceFrame (n : Nat) (s : State) : ServiceFrame s (s.popMany n) := by
  induction n generalizing s with
  | zero => exact (WorkFrame.refl { s with stack := s.stack }).serviceFrame
  | succ n ih => exact s.pop_serviceFrame.trans (ih s.pop)

/-- END_SERVICE and UNWIND leave what the end of services leaves. -/
theorem ServiceFrame.write {s t : State} (h : ServiceFrame s t) {r : Reg} (a : Answer) (hr : r = .endService ∨ r = .unwind) :
    WriteFrame s (t.answer a) r where
  readLatch := h.readLatch
  alertSource := h.alertSource
  latch _ := h.latch
  flags _ := ⟨h.flags.budget, h.flags.poolLow, h.flags.poolEmpty, h.flags.missed⟩
  sources hn := absurd (by rcases hr with rfl | rfl <;> simp) hn
  cmdStatus hn := absurd (by rcases hr with rfl | rfl <;> simp) hn

/-- END_SERVICE answers on the state as it stands, or after a pop. -/
theorem State.endService_writeFrame (s : State) (b : Byte) : WriteFrame s (s.endService b) .endService := by
  have hstays : ∀ a, WriteFrame s (s.answer a) .endService := fun a => (ControlFrame.refl s).answered a (by simp)
  unfold State.endService
  split
  · exact hstays _
  split
  · exact hstays _
  split
  · exact s.pop_serviceFrame.write _ (.inl rfl)
  split
  · exact hstays _
  · exact hstays _

/-- UNWIND answers on the state as it stands, or after its pops. -/
theorem State.unwind_writeFrame (s : State) : WriteFrame s s.unwind .unwind := by
  unfold State.unwind
  split
  · exact (ControlFrame.refl s).answered _ (by simp)
  · exact (State.popMany_serviceFrame _ s).write _ (.inr rfl)

/-! ### The other writes -/

/-- A run of CLEAR leaves the read latches and ALERT_SOURCE (R149). -/
theorem State.clear_writeFrame (s : State) : WriteFrame s s.clear .clear := by
  have hframe := State.foldl_reassert_frame allLines s.clearWork
  have hcontrol := hframe.controlFrame.control
  constructor
  · exact congrArg (·.2.1) hcontrol
  · exact congrArg (·.2.2.1) hcontrol
  · exact fun h => absurd rfl h
  · exact fun h => absurd (by simp) h
  · exact fun h => absurd (by simp) h
  · exact fun h => absurd (by simp) h

/-- POST answers on the state as it stands, or after its admission. -/
theorem State.post_writeFrame (s : State) (b : Byte) : WriteFrame s (s.post b) .post := by
  unfold State.post
  split
  · exact (ControlFrame.refl s).answered _ (by simp)
  · exact (s.admit_frame _).work.controlFrame.answered _ (by simp)

/-- FLUSH, TIMER_ARM and TIMER_STOP write their record and the answer. -/
theorem State.strobe_writeFrames (s : State) (b : Byte) :
    WriteFrame s (s.flush b) .flush ∧ WriteFrame s (s.armTimer b) .timerArm ∧ WriteFrame s (s.stopTimer b) .timerStop := by
  refine ⟨?_, ?_, ?_⟩
  · unfold State.flush
    split
    · exact (ControlFrame.refl s).answered _ (by simp)
    · refine ControlFrame.answered ?_ _ (by simp)
      exact .of_eq rfl rfl
  · unfold State.armTimer
    split
    · exact (ControlFrame.refl s).answered _ (by simp)
    · refine ControlFrame.answered ?_ _ (by simp)
      exact .of_eq rfl rfl
  · unfold State.stopTimer
    split
    · exact (ControlFrame.refl s).answered _ (by simp)
    · refine ControlFrame.answered ?_ _ (by simp)
      exact .of_eq rfl rfl

/-- ALERT_FLAGS writes the flags alone (R136). -/
theorem State.alertFlags_writeFrame (s : State) (b : Byte) : WriteFrame s (s.writeAlertFlags b) .alertFlags :=
  ⟨rfl, rfl, fun _ => rfl, fun h => absurd (by simp) h, fun _ => rfl, fun _ => rfl⟩

/-- The writes of the source page but SRC_LINE leave the control fields. -/
theorem State.sourcePage_controlFrames (s : State) (b : Byte) :
    ControlFrame s (s.writeSrcCfg b) ∧ ControlFrame s (s.writeSrcClass b) ∧ ControlFrame s (s.writeSrcQuota b) := by
  have hpage : ∀ f, ControlFrame s (s.onSelected f) := fun f => by
    unfold State.onSelected
    split <;> exact .of_eq rfl rfl
  exact ⟨hpage _, hpage _, hpage _⟩

/-- The writes of the timer page leave the control fields. -/
theorem State.timerPage_controlFrames (s : State) (b : Byte) :
    ControlFrame s (s.writeTimerPeriod b) ∧ ControlFrame s (s.writeTimerCtrl b) := by
  have hpage : ∀ f, ControlFrame s (s.onTimer f) := fun f => by
    unfold State.onTimer
    split <;> exact .of_eq rfl rfl
  exact ⟨hpage _, hpage _⟩

/-- The writes of the budget page leave the control fields. -/
theorem State.budgetPage_controlFrames (s : State) (b : Byte) :
    ControlFrame s (s.writeBudget b) ∧ ControlFrame s (s.writeBudgetAction b) := by
  have hpage : ∀ f, ControlFrame s (s.onClass f) := fun f => by
    unfold State.onClass
    split <;> exact .of_eq rfl rfl
  exact ⟨hpage _, hpage _⟩

/-- SRC_LINE stores, and its occasion for re-assertion is works. -/
theorem State.writeSrcLine_controlFrame (s : State) (b : Byte) : ControlFrame s (s.writeSrcLine b) := by
  unfold State.writeSrcLine
  split
  · exact .refl s
  · next n _ =>
    unfold State.writeLine
    split
    · obtain ⟨hcontrol, hflags⟩ := (State.reassert_frame (s.setLineCfg n b) n).work.controlFrame
      exact ⟨hcontrol, ⟨hflags.budget, hflags.poolLow, hflags.poolEmpty, hflags.missed⟩⟩
    · exact .of_eq rfl rfl

/-- A low-byte write and TB_CTRL leave the control fields. -/
theorem State.stored_controlFrames (s : State) (v : WideValue) (b : Byte) :
    ControlFrame s (s.writeHolding v b) ∧ ControlFrame s (s.writeTbCtrl b) := by
  refine ⟨?_, ?_⟩
  · unfold State.writeHolding
    split <;> exact .of_eq rfl rfl
  · unfold State.writeTbCtrl
    split
    · exact .of_eq rfl rfl
    · split <;> exact .of_eq rfl rfl

/-- Every write is within the frame of its register. -/
theorem State.windowWrite_frame (s : State) (r : Reg) (b : Byte) : WriteFrame s (s.windowWrite r b) r := by
  obtain ⟨hcfg, hcls, hquota⟩ := s.sourcePage_controlFrames b
  obtain ⟨hperiod, hctrl⟩ := s.timerPage_controlFrames b
  obtain ⟨hbudget, haction⟩ := s.budgetPage_controlFrames b
  have hheld := fun v => (s.stored_controlFrames v b).1
  obtain ⟨hflush, harm, hstop⟩ := s.strobe_writeFrames b
  cases r with
  | endService => exact s.endService_writeFrame b
  | unwind => exact s.unwind_writeFrame
  | clear => exact s.clear_writeFrame
  | post => exact s.post_writeFrame b
  | flush => exact hflush
  | timerArm => exact harm
  | timerStop => exact hstop
  | alertFlags => exact s.alertFlags_writeFrame b
  | srcCfg => exact hcfg.write _
  | srcClass => exact hcls.write _
  | srcQuota => exact hquota.write _
  | srcLine => exact (s.writeSrcLine_controlFrame b).write _
  | timerPeriodH => exact hperiod.write _
  | timerCtrl => exact hctrl.write _
  | budgetH => exact hbudget.write _
  | budgetAction => exact haction.write _
  | tbCtrl => exact (s.stored_controlFrames .stamp b).2.write _
  | agePeriodL => exact (hheld .agePeriod).write _
  | tbDivL => exact (hheld .tbDiv).write _
  | stampL => exact (hheld .stamp).write _
  | timerPeriodL => exact (hheld .timerPeriod).write _
  | budgetL => exact (hheld .budget).write _
  | _ =>
    refine ControlFrame.write ?_ _
    exact .of_eq rfl rfl

/-! ### The commands -/

/-- What a command leaves of the control fields (R102, R106, R117, R135, R138, R144, R148). -/
structure CommandFrame (c : Instr) (s t : State) : Prop where
  latch : c ≠ .take → (∀ b, c ≠ .clear b) → t.latch = s.latch
  cmdStatus : (∀ b, c ≠ .endService b ∧ c ≠ .unwind b ∧ c ≠ .flush b ∧ c ≠ .clear b ∧ c ≠ .post b ∧ c ≠ .timerArm b ∧
    c ≠ .timerStop b) → t.cmdStatus = s.cmdStatus
  latched : ∀ v : View, c ≠ .lowByteRead v → t.latched v = s.latched v
  sources : c ≠ .grant → (∀ cs a, c ≠ .acknowledgeCycle cs a) → (∀ b, c ≠ .endService b ∧ c ≠ .unwind b ∧ c ≠ .clear b) →
    t.stack.map Context.source = s.stack.map Context.source
  flags : (∀ b, c ≠ .alertFlags b ∧ c ≠ .clear b) → FlagsKept s t
  alertSource : (∀ w, c ≠ .tick w) → c ≠ .budgetExpiry → t.alertSource = s.alertSource

/-- A command that leaves all of them. -/
theorem ControlFrame.command {s t : State} (h : ControlFrame s t) (c : Instr) : CommandFrame c s t where
  latch _ _ := congrArg (·.1) h.control
  cmdStatus _ := congrArg (·.2.2.2.1) h.control
  latched v _ := congrArg (fun x => x.2.1[viewIndex v]) h.control
  sources _ _ _ := congrArg (·.2.2.2.2) h.control
  flags _ := h.flags
  alertSource _ _ := congrArg (·.2.2.1) h.control

/-- While a command does nothing but cease to drive D7 to D0, all of them stay. -/
theorem undriven_commandFrame (c : Instr) (s : State) : CommandFrame c s s.undriven :=
  ControlFrame.command (s := s) (t := s.undriven) (.of_eq rfl rfl) c

/-- A write leaves of them what its register's frame says. -/
theorem WriteFrame.command {s t : State} {r : Reg} (h : WriteFrame s t r) (b : Byte) : CommandFrame (r.writeCommand b) s t where
  latch _ hc := h.latch fun hr => hc b (hr ▸ rfl)
  cmdStatus hc := h.cmdStatus fun hr => by
    obtain ⟨h1, h2, h3, h4, h5, h6, h7⟩ := hc b
    simp only [List.mem_cons, List.not_mem_nil, or_false] at hr
    rcases hr with rfl | rfl | rfl | rfl | rfl | rfl | rfl
    exacts [h1 rfl, h2 rfl, h3 rfl, h4 rfl, h5 rfl, h6 rfl, h7 rfl]
  latched v _ := congrArg (fun x => x[viewIndex v]) h.readLatch
  sources _ _ hc := h.sources fun hr => by
    obtain ⟨h1, h2, h3⟩ := hc b
    simp only [List.mem_cons, List.not_mem_nil, or_false] at hr
    rcases hr with rfl | rfl | rfl
    exacts [h1 rfl, h2 rfl, h3 rfl]
  flags hc := h.flags fun hr => by
    obtain ⟨h1, h2⟩ := hc b
    simp only [List.mem_cons, List.not_mem_nil, or_false] at hr
    rcases hr with rfl | rfl
    exacts [h2 rfl, h1 rfl]
  alertSource _ _ := h.alertSource

/-- A register with no row of its own is none of those that write them (R142). -/
theorem State.windowWrite_controlFrame {r : Reg} {b : Byte} (h : (Instr.registerWrite r b).wf = true) (s : State) :
    ControlFrame s (s.windowWrite r b) := by
  by_cases hr : r ∈ ([.srcSel, .ctxSel, .timerSel, .budgetSel, .postSrc] : List Reg)
  · simp only [List.mem_cons, List.not_mem_nil, or_false] at hr
    rcases hr with rfl | rfl | rfl | rfl | rfl <;> exact .of_eq rfl rfl
  · rw [State.windowWrite_ignored b s h hr]
    exact .refl s

/-- What an effect on the undriven state leaves, the wrapped command leaves. -/
theorem CommandFrame.of_undriven {c : Instr} {s t : State} (h : CommandFrame c s.undriven t) : CommandFrame c s t where
  latch := h.latch
  cmdStatus := h.cmdStatus
  latched := h.latched
  sources := h.sources
  flags hc := ⟨(h.flags hc).budget, (h.flags hc).poolLow, (h.flags hc).poolEmpty, (h.flags hc).missed⟩
  alertSource := h.alertSource

/-- A command that has its effect unless RESET_N is low leaves what its effect leaves. -/
theorem unlessReset_commandFrame {c : Instr} {s : State} {f : State → State} (h : CommandFrame c s.undriven (f s.undriven)) :
    CommandFrame c s (unlessReset s f) := by
  rcases unlessReset_cases s f with ⟨-, hu⟩ | ⟨-, hu⟩ <;> rw [hu]
  · exact undriven_commandFrame c s
  · exact h.of_undriven

/-- A reading cycle leaves what its effect leaves: D7 to D0 are none of the fields. -/
theorem readUnlessReset_commandFrame {c : Instr} {s : State} {f : State → Byte × State} (h : CommandFrame c s.undriven (f s.undriven).2) :
    CommandFrame c s (readUnlessReset s f) := by
  rcases readUnlessReset_cases s f with ⟨-, hu⟩ | ⟨-, hu⟩ <;> rw [hu]
  · exact undriven_commandFrame c s
  · have h := h.of_undriven
    exact ⟨h.latch, h.cmdStatus, h.latched, h.sources,
      fun hc => ⟨(h.flags hc).budget, (h.flags hc).poolLow, (h.flags hc).poolEmpty, (h.flags hc).missed⟩, h.alertSource⟩

/-- An event of the Timebase leaves what its effect leaves. -/
theorem ifDue_commandFrame {c : Instr} {s : State} {d : Bool} {f : State → State} (h : CommandFrame c s.undriven (f s.undriven)) :
    CommandFrame c s (if d then f s.undriven else s.undriven) := by
  split
  · exact h.of_undriven
  · exact undriven_commandFrame c s

/-- The Budget Unit's counting sets the BUDGET flag at most (R130, R132). -/
theorem State.countBudget_budgetFlag {s : State} (h : s.flags.budget = true) : s.countBudget.flags.budget = true := by
  rcases s.countBudget_cases with ⟨heq, -⟩ | ⟨c, rest, -, -, -, heq⟩ | ⟨c, rest, -, -, -, heq⟩ <;> rw [heq]
  · exact h
  · rfl
  · exact h

/-- A tick leaves the latches, CMD_STATUS and the stack's sources, and clears no flag. -/
theorem State.tickEffect_commandFrame (s : State) (w : Word) : CommandFrame (.tick w) s (s.tickEffect w) := by
  obtain ⟨d, hframe⟩ := s.tickEffect_frame w
  have hsettings := s.tickEffect_settings w
  have hlatches : (s.tickEffect w).readLatch = s.readLatch := congrArg (·.2.2.2.2.2.2.2.1) hsettings
  have hbudget : s.flags.budget = true → (s.counted w d).flags.budget = true := fun h => by
    rw [State.counted_flags]
    exact State.countBudget_budgetFlag (s := s.advanceTime) h
  constructor
  · exact fun _ _ => congrArg (·.2.2.1) hsettings
  · exact fun _ => congrArg (·.2.2.2.2.2.2.1) hsettings
  · exact fun v _ => congrArg (fun x => x[viewIndex v]) hlatches
  · intro _ _ _
    rw [hframe.stack]
    exact (s.counted_stack_frame w d).2
  · intro _
    refine ⟨fun h => hframe.budgetFlag.trans (hbudget h), fun h => hframe.poolLow ?_, fun h => hframe.poolEmpty ?_, fun h => hframe.missed ?_⟩
    · rw [State.counted_flags]
      exact h
    · rw [State.counted_flags]
      exact h
    · rw [State.counted_flags]
      exact h
  · exact fun h => absurd rfl (h w)

/-- A grant leaves all of them but the stack (R108). -/
theorem State.grant_commandFrame (s : State) {c : Instr} (hc : c = .grant ∨ ∃ cs a, c = .acknowledgeCycle cs a) : CommandFrame c s s.grant.2 := by
  rcases s.grant_cases with ⟨-, h⟩ | ⟨w, -, -, -, h⟩ <;> rw [h]
  · exact (ControlFrame.refl s).command c
  · refine ⟨fun _ _ => rfl, fun _ => rfl, fun _ _ => rfl, fun hg ha _ => ?_, fun _ => .of_eq rfl, fun _ _ => rfl⟩
    rcases hc with rfl | ⟨cs, a, rfl⟩
    · exact absurd rfl hg
    · exact absurd rfl (ha cs a)

/-- A take leaves all of them but the latch (R117). -/
theorem State.takeEffect_commandFrame (s : State) : CommandFrame .take s s.takeEffect := by
  rcases s.takeEffect_cases with ⟨-, h⟩ | ⟨c, rest, x, l, hs, -, h⟩ | ⟨c, rest, -, -, h⟩ <;> rw [h]
  · exact ⟨fun ht _ => absurd rfl ht, fun _ => rfl, fun _ _ => rfl, fun _ _ _ => rfl, fun _ => .of_eq rfl, fun _ _ => rfl⟩
  · refine ⟨fun ht _ => absurd rfl ht, fun _ => rfl, fun _ _ => rfl, fun _ _ _ => ?_, fun _ => .of_eq rfl, fun _ _ => rfl⟩
    rw [hs]
    rfl
  · exact ⟨fun ht _ => absurd rfl ht, fun _ => rfl, fun _ _ => rfl, fun _ _ _ => rfl, fun _ => .of_eq rfl, fun _ _ => rfl⟩

/-- A timer's expiry leaves all of them (R75). -/
theorem State.expireTimer_controlFrame (s : State) (n : Fin 4) : ControlFrame s (s.expireTimer n) := by
  obtain ⟨hcontrol, hflags⟩ := (s.admit_frame (s.expiryRecord n)).work.controlFrame
  rw [State.expireTimer_eq]
  exact ⟨hcontrol, hflags.budget, hflags.poolLow, hflags.poolEmpty, hflags.missed⟩

/-- An aging expiry leaves all of them (R89). -/
theorem State.agingExpiry_controlFrame (s : State) : ControlFrame s s.countAging.grantCredits := by
  obtain ⟨hcontrol, hflags⟩ := s.countAging.grantCredits_frame.controlFrame
  have heq := s.countAging_eq
  refine ⟨hcontrol.trans (by rw [heq]; rfl), ?_⟩
  rw [heq] at hflags
  rw [heq]
  exact ⟨hflags.budget, hflags.poolLow, hflags.poolEmpty, hflags.missed⟩

/-- A budget's expiry leaves all of them but ALERT_SOURCE (R132). -/
theorem State.expireBudget_commandFrame (s : State) : CommandFrame .budgetExpiry s s.expireBudget := by
  unfold State.expireBudget
  split
  · exact (ControlFrame.refl s).command _
  · next c rest hs =>
    refine ⟨fun _ _ => rfl, fun _ => rfl, fun _ _ => rfl, fun _ _ _ => ?_, fun _ => ⟨fun _ => rfl, id, id, id⟩, fun _ h => absurd rfl h⟩
    rw [hs]
    rfl

/-- A low-byte read leaves all of them but its view's latch (R144). -/
theorem State.readLow_commandFrame (s : State) (v : View) : CommandFrame (.lowByteRead v) s (s.readLow v).2 := by
  refine ⟨fun _ _ => rfl, fun _ => rfl, fun u hu => ?_, fun _ _ _ => rfl, fun _ => .of_eq rfl, fun _ _ => rfl⟩
  have hne : (viewIndex v).val ≠ (viewIndex u).val := fun h => hu (congrArg Instr.lowByteRead (viewIndex_injective (Fin.ext h)))
  simp [State.readLow, State.latched, hne]

/-- Every well-formed command but the resets is within its frame. -/
theorem exec_commandFrame {c : Instr} (s : State) (hwf : c.wf = true) (hlow : c ≠ .resetNLow) (hrel : c ≠ .resetNRelease) :
    ∃ t, exec c s = .next t ∧ CommandFrame c s t := by
  induction c using Instr.byCycle with
  | resetNLow => exact absurd rfl hlow
  | resetNRelease => exact absurd rfl hrel
  | tick w => exact ⟨_, rfl, ifDue_commandFrame (f := (·.tickEffect w)) (State.tickEffect_commandFrame _ w)⟩
  | timerExpiry n =>
    exact ⟨_, rfl, ifDue_commandFrame (f := (·.expireTimer n)) ((State.expireTimer_controlFrame _ n).command _)⟩
  | agingExpiry =>
    exact ⟨_, rfl, ifDue_commandFrame (f := (·.countAging.grantCredits)) ((State.agingExpiry_controlFrame _).command _)⟩
  | budgetExpiry =>
    exact ⟨_, rfl, ifDue_commandFrame (f := State.expireBudget) (State.expireBudget_commandFrame _)⟩
  | grant => exact ⟨_, rfl, readUnlessReset_commandFrame (State.grant_commandFrame _ (.inl rfl))⟩
  | acknowledgeCycle cs a => exact ⟨_, rfl, readUnlessReset_commandFrame (State.grant_commandFrame _ (.inr ⟨cs, a, rfl⟩))⟩
  | take => exact ⟨_, rfl, readUnlessReset_commandFrame (f := State.takeEvent) (State.takeEffect_commandFrame _)⟩
  | lowByteRead v =>
    exact ⟨_, rfl, readUnlessReset_commandFrame (f := State.readLow v) (State.readLow_commandFrame _ v)⟩
  | write r b => exact ⟨_, exec_writeCommand r b s, unlessReset_commandFrame ((State.windowWrite_frame _ r b).command b)⟩
  | registerWrite r b =>
    exact ⟨_, exec_registerWrite r b s, unlessReset_commandFrame ((State.windowWrite_controlFrame hwf _).command _)⟩

/-- The command frame of a command that answered `t`. -/
theorem commandFrame_of_exec {s t : State} {c : Instr} (hwf : c.wf = true) (h : exec c s = .next t) (hlow : c ≠ .resetNLow)
    (hrel : c ≠ .resetNRelease) : CommandFrame c s t := by
  obtain ⟨u, hu, hframe⟩ := exec_commandFrame s hwf hlow hrel
  rw [h] at hu
  exact Host.Outcome.next.inj hu ▸ hframe

/-! ### The statements -/

/-- Settles O52: the command's frame. -/
theorem stackDepthAndAlertFlagsChangeOnlyAtTheirCommands : Obligations.StackDepthAndAlertFlagsChangeOnlyAtTheirCommands := by
  intro s t c hwf h hlow hrel
  have hframe := commandFrame_of_exec hwf h hlow hrel
  refine ⟨hframe.sources, fun hc => ?_, hframe.alertSource⟩
  obtain ⟨hbudget, hpoolLow, hpoolEmpty, hmissed⟩ := hframe.flags hc
  exact ⟨hbudget, hpoolLow, hpoolEmpty, hmissed⟩

/-- An answer's code as a number (R148). -/
theorem Answer.code_toNat (a : Answer) : a.code.toNat = match a with
    | .ok => 0 | .noContext => 1 | .notInService => 2 | .outOfOrder => 3 | .badSource => 4 | .badTimer => 5 | .disabled => 6
    | .dropped => 7 | .replaced => 8 := by
  cases a <;> rfl

/-- A header as a number: the result in bits 7:6, the kind in bits 2:0 (R152). -/
theorem EventLatch.header_toNat (l : EventLatch) : l.header.toNat =
    (match l.result with | .none => 0 | .event => 64 | .empty => 128 | .noContext => 192) +
      (match l.kind with | none => 0 | some .rise => 1 | some .fall => 2 | some .level => 3 | some .post => 4 | some .interval => 5) := by
  unfold EventLatch.header
  rcases l.kind with _ | k
  · cases l.result <;> decide
  · cases l.result <;> cases k <;> decide

/-- Settles O51: the command's frame, and the codes. -/
theorem latchesAndAnswerChangeOnlyAtTheirCommands : Obligations.LatchesAndAnswerChangeOnlyAtTheirCommands := by
  intro s t c
  refine ⟨fun hwf h hlow hrel => ?_, s.cmdStatus.code_toNat, s.latch.header_toNat, sourceByte_toNat _, rfl, toNat_ofNat_byte⟩
  have hframe := commandFrame_of_exec hwf h hlow hrel
  exact ⟨hframe.latch, hframe.cmdStatus, hframe.latched⟩

end Sys2Proof.Machine
end

section
/-! Reads of the derived state (02, 2 and 4; 05, 7; 06, 2.3; 08, 6): the statement about R31, R32, R40, R42, R98, R105, R106, R144, R151, R153 and R154. -/

namespace Sys2Proof.Machine

/-! ### The derived states -/

/-- A source is off the stack when it is no context's. -/
theorem State.onStack_eq_false_iff {s : State} {i : Fin 24} : s.onStack i = false ↔ ∀ c ∈ s.stack, c.source ≠ i := by
  rw [Bool.eq_false_iff, Ne, State.onStack_iff]
  simp

/-- A source is ACTIVE exactly when it is the top's (R31). -/
theorem State.sourceState_active_iff {s : State} {i : Fin 24} : s.sourceState i = .active ↔ ∃ c ∈ s.stack.head?, c.source = i := by
  unfold State.sourceState
  cases s.stack with
  | nil => cases (s.src i).queue <;> simp
  | cons c rest =>
    by_cases hc : c.source = i
    · simp [hc]
    · have hno : ¬ ∃ d ∈ (c :: rest).head?, d.source = i := by simp [hc]
      refine iff_of_false ?_ hno
      simp only [hc, if_false]
      split
      · simp
      · split <;> simp

/-- A source is PREEMPTED exactly when it is a context's below the top and not the top's (R31). -/
theorem State.sourceState_preempted_iff {s : State} {i : Fin 24} :
    s.sourceState i = .preempted ↔ (∀ c ∈ s.stack.head?, c.source ≠ i) ∧ ∃ c ∈ s.stack, c.source = i := by
  unfold State.sourceState
  cases s.stack with
  | nil => cases (s.src i).queue <;> simp
  | cons c rest =>
    by_cases hc : c.source = i
    · simp [hc]
    · have hbelow : (rest.any fun d => d.source == i) = true ↔ ∃ d ∈ rest, d.source = i := by simp
      simp only [hc, if_false, List.head?_cons, Option.mem_some_iff, List.mem_cons]
      split
      · next h => simp [hc, hbelow.mp h]
      · next h =>
        rw [hbelow] at h
        cases (s.src i).queue <;> simp_all

/-- A source off the stack is PENDING or IDLE by its queue (R31). -/
theorem State.sourceState_off_iff {s : State} {i : Fin 24} :
    (s.sourceState i = .pending ↔ s.onStack i = false ∧ (s.src i).queue ≠ []) ∧
    (s.sourceState i = .idle ↔ s.onStack i = false ∧ (s.src i).queue = []) := by
  cases hon : s.onStack i with
  | false =>
    rw [State.sourceState_of_not_onStack hon]
    cases (s.src i).queue <;> simp
  | true => rcases State.sourceState_of_onStack hon with h | h <;> simp [h]

/-! ### The bytes -/

/-- A code in bits 7:6 and a number below it do not overlap. -/
theorem code_or_toNat {k n : Nat} (hk : k < 4) (hn : n < 64) : (BitVec.ofNat 8 (64 * k) ||| BitVec.ofNat 8 n).toNat = 64 * k + n := by
  rw [BitVec.toNat_or, BitVec.toNat_ofNat, BitVec.toNat_ofNat, Nat.mod_eq_of_lt (by omega), Nat.mod_eq_of_lt (by omega)]
  have h := Nat.shiftLeft_add_eq_or_of_lt (show n < 2 ^ 6 from hn) k
  rw [Nat.shiftLeft_eq, Nat.mul_comm] at h
  exact h.symm

/-- The SRC_STATE byte as a number (R153). -/
theorem State.stateByte_toNat {s : State} {i : Fin 24} (h : (s.src i).queue.length < 64) : (s.stateByte i).toNat =
    (match s.sourceState i with | .idle => 0 | .pending => 64 | .active => 128 | .preempted => 192) + (s.src i).queue.length := by
  unfold State.stateByte
  cases s.sourceState i with
  | idle => exact code_or_toNat (k := 0) (by omega) h
  | pending => exact code_or_toNat (k := 1) (by omega) h
  | active => exact code_or_toNat (k := 2) (by omega) h
  | preempted => exact code_or_toNat (k := 3) (by omega) h

/-- The SRC_CFG byte as a number (R153). -/
theorem Source.cfgByte_toNat (q : Source) : q.cfgByte.toNat = (if q.admitOn then 1 else 0) + (if q.bid then 2 else 0) +
    (if q.depthBoost then 4 else 0) + (match q.policy with | .keepOldest => 0 | .keepNewest => 16 | .coalesce => 32) := by
  have hbits : ∀ (x y z : Bool) (p : Policy), (flagBit x 0 ||| flagBit y 1 ||| flagBit z 2 ||| p.code).toNat =
      (if x then 1 else 0) + (if y then 2 else 0) + (if z then 4 else 0) +
        (match p with | .keepOldest => 0 | .keepNewest => 16 | .coalesce => 32) := by
    intro x y z p
    revert x y z
    cases p <;> decide
  exact hbits q.admitOn q.bid q.depthBoost q.policy

/-- The SRC_LINE byte as a number (R153). -/
theorem Line.cfgByte_toNat {l : Line} (h : l.filter ≤ 15) : l.cfgByte.toNat = 16 * l.filter + (match l.mode with
    | .off => 0 | .rise => 1 | .fall => 2 | .both => 3 | .levelHigh => 4 | .levelLow => 5) := by
  have hcode : ∀ k, k < 16 → (BitVec.ofNat 8 l.filter <<< 4 ||| BitVec.ofNat 8 k).toNat = 16 * l.filter + k := fun k hk => by
    rw [BitVec.toNat_or, BitVec.toNat_shiftLeft, BitVec.toNat_ofNat, BitVec.toNat_ofNat, Nat.mod_eq_of_lt (show l.filter < 2 ^ 8 by omega),
      Nat.mod_eq_of_lt (show k < 2 ^ 8 by omega), Nat.shiftLeft_eq, Nat.mod_eq_of_lt (by omega)]
    have h := Nat.shiftLeft_add_eq_or_of_lt (show k < 2 ^ 4 from hk) l.filter
    rw [Nat.shiftLeft_eq] at h
    omega
  unfold Line.cfgByte
  cases l.mode with
  | off => exact hcode 0 (by omega)
  | rise => exact hcode 1 (by omega)
  | fall => exact hcode 2 (by omega)
  | both => exact hcode 3 (by omega)
  | levelHigh => exact hcode 4 (by omega)
  | levelLow => exact hcode 5 (by omega)

/-- The WINNER byte as a number (R151). -/
theorem State.winnerByte_toNat (s : State) : s.winnerByte.toNat =
    (if s.grantCondition then 128 else 0) + (match s.winner with | none => 0 | some w => 64 + w.val) := by
  have hsome : ∀ (g : Bool) (w : Fin 24), (flagBit g 7 ||| flagBit true 6 ||| sourceByte w).toNat = (if g then 128 else 0) + (64 + w.val) := by
    decide
  have hnone : ∀ g : Bool, (flagBit g 7 ||| flagBit false 6 ||| 0#8).toNat = (if g then 128 else 0) + 0 := by decide
  unfold State.winnerByte
  cases s.winner with
  | none => exact hnone _
  | some w => exact hsome _ w

/-- The budget state's code as a number (R154). -/
theorem BudgetState.code_toNat (b : BudgetState) : b.code.toNat = match b with | .unlimited => 0 | .running => 1 | .paused => 2 | .expired => 3 := by
  cases b <;> rfl

/-- A class read from a byte. -/
theorem class_toNat (c : BitVec 3) : (c.setWidth 8).toNat = c.toNat := BitVec.toNat_setWidth_of_le (by omega)

/-! ### The pages -/

/-- The source page at source `i` (R40, R42, R153). -/
theorem State.sourcePage_read {s : State} (hs : s.SourcesInRange) {i : Fin 24} (hi : s.srcSel.toNat = i.val) :
    (s.windowRead .srcState).toNat = (match s.sourceState i with
        | .idle => 0 | .pending => 64 | .active => 128 | .preempted => 192) + (s.src i).queue.length ∧
      (s.windowRead .srcBid).toNat = (if s.eligible i then s.bidOf i else 0) ∧
      (s.windowRead .srcCfg).toNat = (s.src i).cfgByte.toNat ∧ (s.windowRead .srcClass).toNat = (s.src i).cls.toNat ∧
      (s.windowRead .srcQuota).toNat = (s.src i).quota ∧ (s.windowRead .srcMissed).toNat = (s.src i).missed := by
  have hsel := State.selectedSource_of hi
  have hnum := sourceOf_eq_some.mpr hi
  obtain ⟨hdepth, -, -, hquota, hmissed, -⟩ := hs i
  obtain ⟨-, hbid⟩ := State.bidOf_bounds hs i
  have hcls := (s.src i).cls.isLt
  simp only [State.windowRead, hsel, hnum, pageByte_some]
  refine ⟨State.stateByte_toNat (by omega), ?_, trivial, class_toNat _, toNat_ofNat_byte (by omega), toNat_ofNat_byte hmissed⟩
  unfold State.bidByte
  split
  · exact toNat_ofNat_byte (by omega)
  · rfl

/-- SRC_LINE at line `n` (R153). -/
theorem State.selectedLine_of {s : State} {n : Fin 16} (h : s.srcSel.toNat = n.val) : s.selectedLine = some s.lines[n] := by
  rw [State.selectedLine, bind_lineOf_eq_some h, Option.map_some]

/-- SRC_LINE of no line (R39). -/
theorem State.selectedLine_none {s : State} (h : 16 ≤ s.srcSel.toNat) : s.selectedLine = none := by
  rw [State.selectedLine, bind_lineOf_eq_none h, Option.map_none]

/-- The context page at a level below the depth (R105, R106). -/
theorem State.contextPage_read {s : State} (hs : s.StackSound) {c : Context} (hc : s.ctxAt = some c) :
    (s.windowRead .ctxSrc).toNat = c.source.val ∧ (s.windowRead .ctxClass).toNat = c.heldClass.toNat ∧
      (s.windowRead .ctxBid).toNat = c.grantedBid ∧ (s.windowRead .ctxTaken).toNat = c.taken ∧
      (s.windowRead .ctxBstate).toNat = c.bstate.code.toNat ∧
      (s.windowRead .ctxStampL).toNat = c.grantStamp.toNat % 256 ∧ (s.windowRead .ctxBudgetL).toNat = c.remaining.toNat % 256 ∧
      s.windowRead .ctxStampH = s.latched .ctxStamp ∧ s.windowRead .ctxBudgetH = s.latched .ctxBudget := by
  obtain ⟨-, -, hrange, -⟩ := hs
  obtain ⟨hbid, htaken, -⟩ := hrange c (List.mem_of_getElem? hc)
  have hstamp : s.highByte .ctxStamp = s.latched .ctxStamp := State.highByte_of_reaches (by simp [State.reachesView, hc])
  have hbudget : s.highByte .ctxBudget = s.latched .ctxBudget := State.highByte_of_reaches (by simp [State.reachesView, hc])
  simp only [State.windowRead, State.viewWord, hc, pageByte_some, loByte_toNat]
  exact ⟨sourceByte_toNat _, class_toNat _, toNat_ofNat_byte hbid, toNat_ofNat_byte htaken, trivial, rfl, rfl, hstamp, hbudget⟩

/-- The source page while SRC_SEL selects no source reads 00h (R146). -/
theorem State.sourcePage_none {s : State} (h : 24 ≤ s.srcSel.toNat) :
    ∀ r ∈ ([.srcCfg, .srcClass, .srcQuota, .srcLine, .srcState, .srcMissed, .srcBid] : List Reg), s.windowRead r = 0 := by
  have hsource := State.selectedSource_none h
  have hline := State.selectedLine_none (s := s) (by omega)
  have hnum := sourceOf_eq_none.mpr h
  simp only [List.forall_mem_cons, State.windowRead, hsource, hline, hnum, pageByte_none]
  exact ⟨trivial, trivial, trivial, trivial, trivial, trivial, trivial, List.forall_mem_nil _⟩

/-- The context page at or beyond the depth reads 00h (R105). -/
theorem State.contextPage_none {s : State} (h : s.stack.length ≤ s.ctxSel.toNat) :
    ∀ r ∈ ([.ctxSrc, .ctxClass, .ctxBid, .ctxStampL, .ctxStampH, .ctxTaken, .ctxBudgetL, .ctxBudgetH, .ctxBstate] : List Reg),
      s.windowRead r = 0 := by
  have hnone := State.ctxAt_none h
  obtain ⟨hstampL, hstampH⟩ := State.page_none (s := s) (v := .ctxStamp) (by simp [State.reachesView, hnone])
  obtain ⟨hbudgetL, hbudgetH⟩ := State.page_none (s := s) (v := .ctxBudget) (by simp [State.reachesView, hnone])
  have hpage : ∀ f : Context → Byte, pageByte s.ctxAt f = 0 := fun f => by rw [hnone, pageByte_none]
  simp only [List.forall_mem_cons]
  exact ⟨hpage _, hpage _, hpage _, hstampL, hstampH, hpage _, hbudgetL, hbudgetH, hpage _, List.forall_mem_nil _⟩

/-- Settles O53: the derived states, and the reads page by page. -/
theorem readsShowTheDerivedState : Obligations.ReadsShowTheDerivedState := by
  intro s
  refine ⟨fun i => ⟨?_, State.sourceState_active_iff, State.sourceState_preempted_iff, ?_, ?_⟩, fun hs hstack => ⟨s.winnerByte_toNat,
    fun i hi => ?_, State.sourcePage_none, toNat_ofNat_byte ?_, fun c hc => ?_, State.contextPage_none⟩⟩
  · rw [State.eligible_iff, State.onStack_eq_false_iff]
  · rw [← State.onStack_eq_false_iff]
    exact State.sourceState_off_iff.1
  · rw [← State.onStack_eq_false_iff]
    exact State.sourceState_off_iff.2
  · obtain ⟨hstate, hbid, hcfg, hcls, hquota, hmissed⟩ := State.sourcePage_read hs hi
    refine ⟨hstate, hbid, hcfg.trans (Source.cfgByte_toNat _), hcls, hquota, hmissed, fun hlow => ?_, fun n hn hfilter => ?_⟩
    · exact congrArg (pageByte · Line.cfgByte) (State.selectedLine_none (hi ▸ hlow))
    · have hread : s.windowRead .srcLine = s.lines[n].cfgByte := congrArg (pageByte · Line.cfgByte) (State.selectedLine_of (hi.trans hn.symm))
      rw [hread]
      exact Line.cfgByte_toNat hfilter
  · obtain ⟨hdepth, -⟩ := hstack
    omega
  · obtain ⟨h1, h2, h3, h4, hstate, hrest⟩ := State.contextPage_read hstack hc
    exact ⟨h1, h2, h3, h4, hstate.trans (BudgetState.code_toNat _), hrest⟩

end Sys2Proof.Machine
end
